-- ==== Sys2Proof/Word.lean ====
section
/-! DEFINITION. The words of the MCC: the byte, the unit of every buffer and of the wire (spec R9, R55), and the
nine-bit length operand (R29). -/

namespace Sys2Proof

/-- A byte: an unsigned integer 0..255, bits numbered 7 down to 0 (R9). -/
abbrev Byte := BitVec 8

/-- The width of the operands `OP_LEN` and `OP_PROBELEN`: 9 bits (R29). Values above 256 can be written and are refused (R94, V14). -/
abbrev Len := BitVec 9

/-- A duration: a natural number of microseconds (R9, R96, decision D24). -/
abbrev Duration := Nat

/-- The pure codec functions are functions "of an arbitrary buffer" (40_codec.md): they see a buffer only as the byte at each offset. -/
abbrev View := Nat → Byte

end Sys2Proof
end

