-- ==== Sys2Proof/Machine/Layout.lean ====
section
/-! DEFINITION. The numbers of the wire format, each defined once and used by the encode and the decode side alike (R119; U9 of
93_implementation_defined.md asks for one definition each, because the source's literals are unaudited). -/

namespace Sys2Proof.Machine

/-- `HDR_LEN`: six header bytes (R80). -/
abbrev hdrLen : Nat := 6
/-- Offset of `slot` (R81). -/
abbrev offSlot : Nat := 0
/-- Offset of `length` (R82). -/
abbrev offLength : Nat := 1
/-- Offset of `direction` (R83). -/
abbrev offDir : Nat := 2
/-- Offset of `module_id` (R84). -/
abbrev offMid : Nat := 3
/-- Offset of `message_type` (R85). -/
abbrev offMt : Nat := 4
/-- Offset of `message_index` (R86). -/
abbrev offMidx : Nat := 5
/-- First payload offset (R87). -/
abbrev offPayload : Nat := 6
/-- Offset of `checksum` in a frame of total length `L`: the last one, `L - 1`, which is also the end of the payload and the value of the
length byte (R82, R88). -/
abbrev offChecksum (L : Nat) : Nat := L - 1
/-- First offset of the probe's command (R89). -/
abbrev offProbeCmd0 : Nat := 0
/-- Offset of the probe's length byte (R89). -/
abbrev offProbeLength : Nat := 1
/-- Second offset of the probe's command (R89). -/
abbrev offProbeCmd2 : Nat := 2
/-- First offset after the three command bytes of the probe (R89). -/
abbrev offProbeFill : Nat := 3
/-- `ID_OFF`: the identity stands at offsets 6, 7, 8 of the probe response (R90, C9). -/
abbrev idOff : Nat := 6
/-- The smallest frame: six header bytes and the checksum byte (R8). -/
abbrev minLen : Nat := 7
/-- The largest frame that the one-byte length field can express (R8). -/
abbrev maxLen : Nat := 256
/-- `DIR_TO_MODULE` (R83). -/
abbrev dirToModule : Byte := 1#8
/-- `DIR_FROM_MODULE` (R83). -/
abbrev dirFromModule : Byte := 2#8
/-- `MT_MODULEID` (R85). -/
abbrev mtModuleId : Byte := 1#8
/-- `MT_CONFIGURATION` (R85). -/
abbrev mtConfiguration : Byte := 2#8
/-- `MT_DATA` (R85). -/
abbrev mtData : Byte := 3#8
/-- `MT_FEEDBACK` (R85). -/
abbrev mtFeedback : Byte := 4#8
/-- `PROBE_CMD`: the bytes at offsets 0 and 2 of the probe (R89). -/
abbrev probeCmd : Byte := 19#8
/-- `PROBE_LEN` where the driver's model says nothing else (R89, R135). -/
abbrev probeLenDefault : Nat := 56
/-- `N_SLOTS`: slots are numbered 1 to 8 (R21). -/
abbrev nSlots : Nat := 8

end Sys2Proof.Machine
end

