-- ==== Sys2Proof/Syntax.lean ====
section
/-! DEFINITION. The operand types and the one inductive of instructions: a constructor for every row of
spec/opcode_table.json, the fourteen operation requests of R92 (format CMD), the eight wire frames of R80 and R97
(format FRAME) and the bootloader-escape probe of R89 (format PROBE). -/

namespace Sys2Proof

/-- `OP_BUFSEL`: which frame buffer a codec function reads; 0 = TX, 1 = RX (R29). -/
inductive BufSel where
  | tx
  | rx
deriving DecidableEq, Repr, Inhabited

/-- A level of the reset line; `OP_LEVEL` has 0 = Low, 1 = High (R29, R138). -/
inductive Level where
  | low
  | high
deriving DecidableEq, Repr, Inhabited

/-- A 3-byte ModuleIdentity: a tuple in offset order, not an integer (R11, R96). -/
structure Ident where
  b0 : Byte
  b1 : Byte
  b2 : Byte
deriving DecidableEq, Repr, Inhabited

/-- One record of `OP_CFG`: `(mid, mt, midx, L, payload, delay)` (R29, R161). -/
structure CfgFrame where
  mid : Byte
  mt : Byte
  midx : Byte
  len : Len
  payload : List Byte
  delay : Option Duration
deriving DecidableEq, Repr, Inhabited

/-- The operands of XCHG, WR and XCHGE, in the order of R92: DIR, MID, MT, MIDX, PAYLOAD, LEN, DELAY. -/
structure XferArgs where
  dir : Byte
  mid : Byte
  mt : Byte
  midx : Byte
  payload : List Byte
  len : Len
  delay : Option Duration
deriving DecidableEq, Repr, Inhabited

/-- What a FRAME row of the table leaves open of a wire frame (R97): the bytes at offsets 0 (slot), 1 (length), 3 (module_id) and
5 (message_index), and every byte from offset 6 on, that is the payload and the checksum byte (R80). -/
structure FrameArgs where
  slot : Byte
  length : Byte
  mid : Byte
  midx : Byte
  tail : List Byte
deriving DecidableEq, Repr, Inhabited

/-- What the PROBE row leaves open (R97): the byte at offset 1 (P - 1) and every byte from offset 3 on (R89). -/
structure ProbeArgs where
  length : Byte
  tail : List Byte
deriving DecidableEq, Repr, Inhabited

/-- The instructions: one constructor per row of spec/opcode_table.json. A CMD row is a request of the host; a FRAME or PROBE row is
a byte string of the wire, which the model runs as the module's act of presenting it on the receive side (log entry 3). -/
inductive Instr where
  | chk (buf : BufSel) (len : Len)
  | wrh (len : Len) (dir mid mt midx : Byte)
  | val (buf : BufSel) (len : Len)
  | echo (buf : BufSel) (mid mt midx : Byte)
  | esc (probeLen : Len)
  | xchg (a : XferArgs)
  | wr (a : XferArgs)
  | srst (level : Level)
  | rrdy
  | xchge (a : XferArgs)
  | reset
  | build (idexp : Ident) (probeLen : Len) (cfg : List CfgFrame)
  | degrade
  | abandon
  | frameToModuleid (f : FrameArgs)
  | frameToConfiguration (f : FrameArgs)
  | frameToData (f : FrameArgs)
  | frameToFeedback (f : FrameArgs)
  | frameFromModuleid (f : FrameArgs)
  | frameFromConfiguration (f : FrameArgs)
  | frameFromData (f : FrameArgs)
  | frameFromFeedback (f : FrameArgs)
  | probe (p : ProbeArgs)
deriving DecidableEq, Repr, Inhabited

/-- The operand registers (R29), with the widths R29 gives them; the host writes them with a command code (R91). The same record holds
the operands latched by the operation in progress. -/
structure Operands where
  dir : Byte
  mid : Byte
  mt : Byte
  midx : Byte
  len : Len
  payload : List Byte
  delay : Option Duration
  bufsel : BitVec 1
  level : BitVec 1
  idexp : Ident
  probeLen : Len
  cfg : List CfgFrame
deriving DecidableEq, Repr, Inhabited

/-- Operands of zeros, the payload and the record list empty, the delay absent. -/
def Operands.zero : Operands where
  dir := 0
  mid := 0
  mt := 0
  midx := 0
  len := 0
  payload := []
  delay := none
  bufsel := 0
  level := 0
  idexp := ⟨0, 0, 0⟩
  probeLen := 0
  cfg := []

/-- What reaches the MCC from outside in one piece: a request of the host, which is "an 8-bit command code `CMD` and the operands"
(R91), or the bytes of one frame on the wire, lowest offset first (R52). -/
inductive PortWord where
  | request (cmd : Byte) (ops : Operands)
  | wire (bytes : List Byte)
deriving DecidableEq, Repr, Inhabited

end Sys2Proof
end

