-- ==== Sys2Proof/WellFormed.lean ====
section
/-! DEFINITION. Which terms of `Instr` an encoding exists for. Every operand of a request has the width R29 gives it, so every request
is well formed (a value that R94 does not allow is written, read and then refused by the machine, R208); a wire frame or probe has 7 to
256 bytes (R8). -/

namespace Sys2Proof

/-- The number of bytes lies in the bounds of R8. -/
def wireLenOk (n : Nat) : Bool := Machine.minLen ≤ n && n ≤ Machine.maxLen

/-- The wire frame of these fields has a legal number of bytes. -/
def FrameArgs.wf (f : FrameArgs) : Bool := wireLenOk (6 + f.tail.length)

/-- The probe of these fields has a legal number of bytes. -/
def ProbeArgs.wf (p : ProbeArgs) : Bool := wireLenOk (3 + p.tail.length)

/-- Well-formed instructions: those that the encoder writes and the decoder reads back. -/
def WellFormed (i : Instr) : Bool :=
  match i with
  | .chk _ _ => true
  | .wrh _ _ _ _ _ => true
  | .val _ _ => true
  | .echo _ _ _ _ => true
  | .esc _ => true
  | .xchg _ => true
  | .wr _ => true
  | .srst _ => true
  | .rrdy => true
  | .xchge _ => true
  | .reset => true
  | .build _ _ _ => true
  | .degrade => true
  | .abandon => true
  | .frameToModuleid f => f.wf
  | .frameToConfiguration f => f.wf
  | .frameToData f => f.wf
  | .frameToFeedback f => f.wf
  | .frameFromModuleid f => f.wf
  | .frameFromConfiguration f => f.wf
  | .frameFromData f => f.wf
  | .frameFromFeedback f => f.wf
  | .probe p => p.wf

end Sys2Proof
end

