-- ==== Sys2Proof/Decode.lean ====
section
/-! DEFINITION. Decoding what reaches the MCC, total and rejecting by name, and the encoder written from the same tables: the command
codes of R92 and the first six bytes of a wire frame (R80, R89, R97). -/

namespace Sys2Proof

open Machine

/-- Why a word at the port stands for no instruction. -/
inductive Reject where
  /-- No row of R92 has this command code; the request is refused with `UnknownCommand` (R92, R208). -/
  | unknownCommand (cmd : Byte)
  /-- Fewer than 7 bytes on the wire (R8). -/
  | shortFrame
  /-- More than 256 bytes on the wire (R8). -/
  | longFrame
  /-- A direction byte that no row has (R83, R97). -/
  | reservedDirection (d : Byte)
  /-- A message_type byte that no row has (R85, R97). -/
  | reservedMessageType (t : Byte)
deriving DecidableEq, Repr

/-- `OP_BUFSEL`: 0 = TX, 1 = RX (R29). -/
def decodeBufSel (b : BitVec 1) : BufSel := if b = 0#1 then .tx else .rx

/-- The bit of `OP_BUFSEL` (R29). -/
def encodeBufSel : BufSel → BitVec 1
  | .tx => 0#1
  | .rx => 1#1

/-- `OP_LEVEL`: 0 = Low, 1 = High (R29). -/
def decodeLevel (b : BitVec 1) : Level := if b = 0#1 then .low else .high

/-- The bit of `OP_LEVEL` (R29). -/
def encodeLevel : Level → BitVec 1
  | .low => 0#1
  | .high => 1#1

/-- The transport operands among the operand registers (R29). -/
def Operands.xferArgs (o : Operands) : XferArgs := ⟨o.dir, o.mid, o.mt, o.midx, o.payload, o.len, o.delay⟩

/-- The operand registers with the transport operands written (R29). -/
def Operands.withXferArgs (o : Operands) (a : XferArgs) : Operands :=
  { o with dir := a.dir, mid := a.mid, mt := a.mt, midx := a.midx, payload := a.payload, len := a.len, delay := a.delay }

/-- The command code of a request, from the table of R92; a wire frame has none. -/
def decodeRequest (cmd : Byte) (o : Operands) : Except Reject Instr :=
  if cmd = 0x01#8 then .ok (.chk (decodeBufSel o.bufsel) o.len)
  else if cmd = 0x02#8 then .ok (.wrh o.len o.dir o.mid o.mt o.midx)
  else if cmd = 0x03#8 then .ok (.val (decodeBufSel o.bufsel) o.len)
  else if cmd = 0x04#8 then .ok (.echo (decodeBufSel o.bufsel) o.mid o.mt o.midx)
  else if cmd = 0x10#8 then .ok (.esc o.probeLen)
  else if cmd = 0x11#8 then .ok (.xchg o.xferArgs)
  else if cmd = 0x12#8 then .ok (.wr o.xferArgs)
  else if cmd = 0x13#8 then .ok (.srst (decodeLevel o.level))
  else if cmd = 0x14#8 then .ok .rrdy
  else if cmd = 0x15#8 then .ok (.xchge o.xferArgs)
  else if cmd = 0x20#8 then .ok .reset
  else if cmd = 0x21#8 then .ok (.build o.idexp o.probeLen o.cfg)
  else if cmd = 0x22#8 then .ok .degrade
  else if cmd = 0x23#8 then .ok .abandon
  else .error (.unknownCommand cmd)

/-- The row of R97 that a frame's direction and message type select. -/
def decodeFrame (dir mt : Byte) (f : FrameArgs) : Except Reject Instr :=
  if dir = dirToModule then
    if mt = mtModuleId then .ok (.frameToModuleid f)
    else if mt = mtConfiguration then .ok (.frameToConfiguration f)
    else if mt = mtData then .ok (.frameToData f)
    else if mt = mtFeedback then .ok (.frameToFeedback f)
    else .error (.reservedMessageType mt)
  else if dir = dirFromModule then
    if mt = mtModuleId then .ok (.frameFromModuleid f)
    else if mt = mtConfiguration then .ok (.frameFromConfiguration f)
    else if mt = mtData then .ok (.frameFromData f)
    else if mt = mtFeedback then .ok (.frameFromFeedback f)
    else .error (.reservedMessageType mt)
  else .error (.reservedDirection dir)

/-- The byte of a wire message at an offset; it is asked only below the length of the message. -/
def byteAt (bytes : List Byte) (k : Nat) : Byte := bytes.getD k 0

/-- A wire message: a probe when bytes 0 and 2 are 19, else a frame (R93, R97). -/
def decodeWire (bytes : List Byte) : Except Reject Instr :=
  if bytes.length < minLen then .error .shortFrame
  else if maxLen < bytes.length then .error .longFrame
  else if byteAt bytes offProbeCmd0 = probeCmd ∧ byteAt bytes offProbeCmd2 = probeCmd then
    .ok (.probe ⟨byteAt bytes offProbeLength, bytes.drop offProbeFill⟩)
  else
    decodeFrame (byteAt bytes offDir) (byteAt bytes offMt)
      ⟨byteAt bytes offSlot, byteAt bytes offLength, byteAt bytes offMid, byteAt bytes offMidx, bytes.drop offPayload⟩

/-- The instruction that a word at the port stands for. -/
def decode (w : PortWord) : Except Reject Instr :=
  match w with
  | .request cmd ops => decodeRequest cmd ops
  | .wire bytes => decodeWire bytes

/-- The byte that a frame's header has at an offset (R80 to R86). -/
def headerByte (dir mt : Byte) (f : FrameArgs) (k : Nat) : Byte :=
  if k = offSlot then f.slot
  else if k = offLength then f.length
  else if k = offDir then dir
  else if k = offMid then f.mid
  else if k = offMt then mt
  else if k = offMidx then f.midx
  else 0

/-- The bytes of a wire frame with this direction and message type (R80). -/
def frameBytes (dir mt : Byte) (f : FrameArgs) : List Byte := (List.range offPayload).map (headerByte dir mt f) ++ f.tail

/-- The byte that a probe has at one of its first three offsets (R89). -/
def probeByte (p : ProbeArgs) (k : Nat) : Byte :=
  if k = offProbeCmd0 then probeCmd
  else if k = offProbeLength then p.length
  else if k = offProbeCmd2 then probeCmd
  else 0

/-- The bytes of a probe (R89). -/
def probeBytes (p : ProbeArgs) : List Byte := (List.range offProbeFill).map (probeByte p) ++ p.tail

/-- The word that stands for an instruction: its command code with its own operands and zeros in the others, or its bytes on the wire. -/
def encode (i : Instr) : PortWord :=
  match i with
  | .chk buf len => .request 0x01#8 { Operands.zero with bufsel := encodeBufSel buf, len := len }
  | .wrh len dir mid mt midx => .request 0x02#8 { Operands.zero with len := len, dir := dir, mid := mid, mt := mt, midx := midx }
  | .val buf len => .request 0x03#8 { Operands.zero with bufsel := encodeBufSel buf, len := len }
  | .echo buf mid mt midx => .request 0x04#8 { Operands.zero with bufsel := encodeBufSel buf, mid := mid, mt := mt, midx := midx }
  | .esc p => .request 0x10#8 { Operands.zero with probeLen := p }
  | .xchg a => .request 0x11#8 (Operands.zero.withXferArgs a)
  | .wr a => .request 0x12#8 (Operands.zero.withXferArgs a)
  | .srst l => .request 0x13#8 { Operands.zero with level := encodeLevel l }
  | .rrdy => .request 0x14#8 Operands.zero
  | .xchge a => .request 0x15#8 (Operands.zero.withXferArgs a)
  | .reset => .request 0x20#8 Operands.zero
  | .build idexp p cfg => .request 0x21#8 { Operands.zero with idexp := idexp, probeLen := p, cfg := cfg }
  | .degrade => .request 0x22#8 Operands.zero
  | .abandon => .request 0x23#8 Operands.zero
  | .frameToModuleid f => .wire (frameBytes dirToModule mtModuleId f)
  | .frameToConfiguration f => .wire (frameBytes dirToModule mtConfiguration f)
  | .frameToData f => .wire (frameBytes dirToModule mtData f)
  | .frameToFeedback f => .wire (frameBytes dirToModule mtFeedback f)
  | .frameFromModuleid f => .wire (frameBytes dirFromModule mtModuleId f)
  | .frameFromConfiguration f => .wire (frameBytes dirFromModule mtConfiguration f)
  | .frameFromData f => .wire (frameBytes dirFromModule mtData f)
  | .frameFromFeedback f => .wire (frameBytes dirFromModule mtFeedback f)
  | .probe p => .wire (probeBytes p)

/-- The `n` lowest bytes of a number, byte 0 first. -/
def bytesOfNat : Nat → Nat → List Byte
  | 0, _ => []
  | n + 1, w => BitVec.ofNat 8 w :: bytesOfNat n (w / 256)

/-- The `n` bytes that `2 n` hexadecimal digits of the table stand for: byte 0 is the leftmost, so the digits read in wire order (R97). -/
def bytesOfDigits (n w : Nat) : List Byte := (bytesOfNat n w).reverse

/-- The word at the port of a table row's `nbits` bits `w`: 8 bits are a command code, with operands of zeros; more are the first bytes of
a message of the wire as the row's digits give them (R97), with zeros after them up to the smallest frame. -/
def wordOfTable (nbits w : Nat) : PortWord :=
  if nbits ≤ 8 then .request (BitVec.ofNat 8 w) Operands.zero
  else .wire (bytesOfDigits (nbits / 8) w ++ List.replicate (minLen - nbits / 8) 0)

/-! ### The rows of the opcode table (R97) -/

/-- `match` and `mask` of a row: over the command code in a CMD row, over the first six bytes of the message, as twelve hexadecimal
digits, in a FRAME or PROBE row (R97). -/
inductive TableRow where
  | cmd (code mask : Byte)
  | wire (digits mask : Nat)
deriving DecidableEq, Repr

/-- How many bytes of a message the table's `match` and `mask` cover (R97). -/
abbrev rowBytes : Nat := 6

/-- A word at the port matches a row: `b[k] AND mask[k] = match[k]` for every byte `k` the row covers (R97). -/
def TableRow.fits (r : TableRow) (w : PortWord) : Bool :=
  match r, w with
  | .cmd code mask, .request c _ => c &&& mask == code
  | .wire digits mask, .wire bytes =>
    (List.range rowBytes).all fun k =>
      byteAt bytes k &&& byteAt (bytesOfDigits rowBytes mask) k == byteAt (bytesOfDigits rowBytes digits) k
  | _, _ => false

/-- The mask of the FRAME rows: the bytes at offsets 2 and 4. -/
def frameMask : Nat := 0x0000FF00FF00

/-- The row of each instruction, its digits those of spec/opcode_table.json. -/
def tableRow (i : Instr) : TableRow :=
  match i with
  | .chk _ _ => .cmd 0x01#8 0xFF#8
  | .wrh _ _ _ _ _ => .cmd 0x02#8 0xFF#8
  | .val _ _ => .cmd 0x03#8 0xFF#8
  | .echo _ _ _ _ => .cmd 0x04#8 0xFF#8
  | .esc _ => .cmd 0x10#8 0xFF#8
  | .xchg _ => .cmd 0x11#8 0xFF#8
  | .wr _ => .cmd 0x12#8 0xFF#8
  | .srst _ => .cmd 0x13#8 0xFF#8
  | .rrdy => .cmd 0x14#8 0xFF#8
  | .xchge _ => .cmd 0x15#8 0xFF#8
  | .reset => .cmd 0x20#8 0xFF#8
  | .build _ _ _ => .cmd 0x21#8 0xFF#8
  | .degrade => .cmd 0x22#8 0xFF#8
  | .abandon => .cmd 0x23#8 0xFF#8
  | .frameToModuleid _ => .wire 0x000001000100 frameMask
  | .frameToConfiguration _ => .wire 0x000001000200 frameMask
  | .frameToData _ => .wire 0x000001000300 frameMask
  | .frameToFeedback _ => .wire 0x000001000400 frameMask
  | .frameFromModuleid _ => .wire 0x000002000100 frameMask
  | .frameFromConfiguration _ => .wire 0x000002000200 frameMask
  | .frameFromData _ => .wire 0x000002000300 frameMask
  | .frameFromFeedback _ => .wire 0x000002000400 frameMask
  | .probe _ => .wire 0x130013000000 0xFF00FF000000

/-- The instruction the decoder reads from a table word. -/
def decodeTableWord (nbits w : Nat) : Option Instr :=
  match decode (wordOfTable nbits w) with
  | .ok i => some i
  | .error _ => none

end Sys2Proof
end

