-- ==== Sys2Proof/Machine/Types.lean ====
section
/-! DEFINITION. The data types of the machine's registers, of its observable events and of the environment's draws. -/

namespace Sys2Proof.Machine

/-- The fourteen operations (R92), by mnemonic: what `SEQ.op` and `EvResult` name. -/
inductive Op where
  | chk | wrh | val | echo | esc | xchg | wr | srst | rrdy | xchge | reset | build | degrade | abandon
deriving DecidableEq, Repr, Inhabited

/-- What an `EvResult` names: an operation, or a command code that selects none (R208 emits the event for an unknown code too; log entry 12). -/
inductive OpId where
  | op (o : Op)
  | unknown (cmd : Byte)
deriving DecidableEq, Repr, Inhabited

/-- `PHASE` (R22). The reserved encoding 3 is never produced and has no constructor (U20). -/
inductive Phase where
  | unidentified
  | reset
  | bound
deriving DecidableEq, Repr, Inhabited

/-- The four resources the Transport owns (R20, R24). -/
inductive Resource where
  | channel
  | resetLine
  | readyLine
  | delaySource
deriving DecidableEq, Repr, Inhabited

/-- Why a construction failed (R24): a resource could not be acquired, or the slot is outside 1..8 (D30). -/
inductive SetupFailure where
  | resource (r : Resource)
  | slotOutOfRange
deriving DecidableEq, Repr, Inhabited

/-- `SETUP` (R24). The reserved encodings 6 and 7 have no constructor (U20). -/
inductive Setup where
  | ok
  | failed (f : SetupFailure)
deriving DecidableEq, Repr, Inhabited

/-- `RESET_OUT` (R26). The reserved encoding 3 has no constructor (U20). -/
inductive ResetOut where
  | unknown
  | low
  | high
deriving DecidableEq, Repr, Inhabited

/-- The origin of a `ResourceError` (R201). -/
inductive Origin where
  | channel
  | resetLine
  | readyLine
deriving DecidableEq, Repr, Inhabited

/-- The reasons of a refusal (R200, R208). -/
inductive Reason where
  | unknownCommand
  | wrongPhase
  | tainted
  | busy
  | setupFailed
  | badLength
  | badDirection
  | badMessageType
  | emptyConfig
  | nothingToAbandon
deriving DecidableEq, Repr, Inhabited

/-- The results an operation or a construction ends with (R200). -/
inductive Result where
  | ok
  | resourceError (o : Origin)
  | setupError (f : SetupFailure)
  | moduleUnavailable
  | checksumIncorrect
  | unableToSerDe
  | identityMismatch
  | refused (r : Reason)
  | abandoned
deriving DecidableEq, Repr, Inhabited

/-- A level of the ready line as a sample reads it (R130, R139). -/
inductive ReadyLevel where
  | asserted
  | deasserted
deriving DecidableEq, Repr, Inhabited

/-- `RES`: its shape depends on the operation (R30). -/
inductive ResVal where
  | nothing
  | byte (b : Byte)
  | bool (b : Bool)
  | level (v : ReadyLevel)
  | payload (bs : List Byte)
  | frame (bs : List Byte)
deriving DecidableEq, Repr, Inhabited

/-- The observable events (R10). -/
inductive Event where
  | reset (level : Level)
  | delay (d : Duration)
  | ready (v : ReadyLevel)
  | xfer (tx rx : List Byte)
  | fail (o : Origin)
  | result (op : OpId) (r : Result)
deriving DecidableEq, Repr, Inhabited

/-- What one look at the ready line draws (R130, R132): a level, or the failure of the resource. -/
inductive ReadyDraw where
  | asserted
  | deasserted
  | fails
deriving DecidableEq, Repr, Inhabited

/-- What one transfer draws (R130): the failure of the channel, or the bytes that come in. A byte of the transfer that `rx` does not give
is a free value; a byte of `rx` past the transfer's length is not taken. -/
inductive XferDraw where
  | fails
  | answers (rx : List Byte)
deriving DecidableEq, Repr, Inhabited

/-- What one drive of the reset line draws (R130). -/
inductive DriveDraw where
  | drives
  | fails
deriving DecidableEq, Repr, Inhabited

/-- What is left on the wire of a transfer that was under way when its operation was abandoned (R165, U3): nothing, or its first
`count` bytes each way (at most the whole transfer). -/
inductive StrayDraw where
  | nothing
  | partly (count : Nat) (rx : List Byte)
deriving DecidableEq, Repr, Inhabited

/-- The environment's draws still to come, per resource, the next one first. When a list is empty the next draw is a free value of
Config (log entry 2). -/
structure Env where
  ready : List ReadyDraw
  xfer : List XferDraw
  drive : List DriveDraw
  stray : List StrayDraw
deriving DecidableEq, Repr, Inhabited

/-- `SEQ` (R28): `op` is Idle (`none`) or the operation in progress, `step` the index of its next micro-step as its rule numbers them,
`frame` the number of configuration frames BUILD has sent. R28 gives `frame` to BUILD alone; that it is 0 when idle and in every other
operation is the model's choice (DESIGN CHOICE, log entry 25). The model's own refinement (log entry 5): `sub` is the next step of the ESC,
XCHG or WR that BUILD runs inside its step 1 or 3, and `second` says that the first half of a Prelude (R133) is done. -/
structure Seq where
  op : Option Op
  step : Nat
  frame : Nat
  sub : Nat
  second : Bool
deriving DecidableEq, Repr, Inhabited

/-- `SEQ = (Idle, 0)` (R28); `frame` 0 is the model's choice (DESIGN CHOICE, log entry 25). -/
def Seq.idle : Seq := ⟨none, 0, 0, 0, false⟩

/-- `SEQ <- (op, k)` (R9, R28); outside BUILD `frame` 0 is the model's choice (DESIGN CHOICE, log entry 25). -/
def Seq.start (op : Op) (k : Nat) : Seq := ⟨some op, k, 0, 0, false⟩

/-- A frame buffer (R31, R32): the bytes that have a specified value, as a canonical list of cells (offsets strictly rising). A byte
with no cell is unspecified and reads as a free value, `Config.freeByte gen offset`; a new `gen` is a new unspecified content. -/
structure Buf where
  gen : Nat
  cells : List Host.Cell
deriving DecidableEq, Repr, Inhabited

/-- The external inputs in the order in which they arrive (the model's own; log entry 4): `present` is a request of the host or a frame
of the module; `pause` is one turn in which nothing arrives, so that the sequencer takes its next micro-step; `await` is the host
waiting for the operation in progress to end (R60). -/
inductive Input where
  | pause
  | await
  | present (w : PortWord)
deriving DecidableEq, Repr, Inhabited

end Sys2Proof.Machine
end

