-- ==== Sys2Proof/Config.lean ====
section
/-! DEFINITION. What an implementation fixes: the OPEN parameters of 00_scope.md section 5, as one record that State carries and no
operation writes (R20), and the free values: opaque constants that stand for every value the spec leaves unspecified or to the
environment. Nothing can be proved of a free value. -/

namespace Sys2Proof

/-- `SCHED` (R131, R132, D12). -/
inductive Sched where
  | sync
  | coop
deriving DecidableEq, Repr, Inhabited

/-- `READY_GATE_ORDER` (R133, D11). -/
inductive GateOrder where
  | beforeDelay
  | afterDelay
deriving DecidableEq, Repr, Inhabited

/-- `CFG_MODE` (R161, D13). -/
inductive CfgMode where
  | ack
  | writeOnly
deriving DecidableEq, Repr, Inhabited

/-- The OPEN parameters of the block (00_scope.md section 5). `CHECKSUM_CONV` is fixed (D1) and the electrical ones are not modelled
(D22, D23). -/
structure Params where
  frameCap : Nat
  sched : Sched
  gateOrder : GateOrder
  cfgMode : CfgMode
  probeTxChecksum : Bool
  probeRxCheck : Bool
  escReadyGate : Bool
  wrReadyGate : Bool
  tRstLow : Duration
  tRstHigh : Duration
deriving DecidableEq, Repr, Inhabited

/-- The parameter values of 95_test_vectors.md ("Unless a vector says otherwise the parameters are"); the instance `State.reset` has
these (log entry 6). No statement rests on them. -/
def Params.vectors : Params where
  frameCap := 256
  sched := .sync
  gateOrder := .beforeDelay
  cfgMode := .ack
  probeTxChecksum := true
  probeRxCheck := true
  escReadyGate := false
  wrReadyGate := true
  tRstLow := 100000
  tRstHigh := 100000

/-- FREE VALUE: the byte at an offset of an unspecified buffer content, and a received byte that no draw gives (D26, D27, U2, U5, U6,
U16). The first argument tells one unspecified content from another. -/
opaque Config.freeByte : Nat → Nat → Byte

/-- FREE VALUE: `RES` where it is unspecified (R30, R165, R210, U6). -/
opaque Config.freeRes : Nat → Machine.ResVal

/-- FREE VALUE: `IDENT.id` where `IDENT.valid = 0` (R23, U6). -/
opaque Config.freeIdent : Nat → Ident

/-- FREE VALUE: the operand registers after construction (R41, U6). -/
opaque Config.freeOperands : Nat → Operands

/-- FREE VALUE: a look at the ready line that State gives no draw for (R35, U16, U18). -/
opaque Config.freeReady : Nat → Machine.ReadyDraw

/-- FREE VALUE: a transfer that State gives no draw for (R7, U16, U18). -/
opaque Config.freeXfer : Nat → Machine.XferDraw

/-- FREE VALUE: a drive of the reset line that State gives no draw for (U18). -/
opaque Config.freeDrive : Nat → Machine.DriveDraw

/-- FREE VALUE: what an abandoned transfer left on the wire where State gives no draw for it (R165, U3). -/
opaque Config.freeStray : Nat → Machine.StrayDraw

end Sys2Proof
end

