-- ==== Sys2Proof/Machine/State.lean ====
section
/-! DEFINITION. The state of one MCC instance (10_state.md), the reasons a step can stop, construction (R230) and the state right after
it (R41). -/

namespace Sys2Proof.Machine

/-- `IDENT` (CR2): 1 valid bit and 3 bytes (R23). -/
structure IdentReg where
  valid : Bool
  id : Ident
deriving DecidableEq, Repr, Inhabited

/-- Everything the spec gives an instance, then the model's own fields: the events emitted so far, the environment's draws to come, the
external inputs to come, and the counter that keeps one free value apart from another. -/
structure State where
  /-- The OPEN parameters of the block (00_scope.md section 5); no operation writes them (R20). -/
  params : Params
  /-- CR0 `SLOT` (R21). -/
  slot : Byte
  /-- CR1 `PHASE` (R22). -/
  phase : Phase
  /-- CR2 `IDENT` (R23). -/
  ident : IdentReg
  /-- CR3 `SETUP` (R24). -/
  setup : Setup
  /-- CR4 `TAINT` (R25). -/
  taint : Bool
  /-- CR5 `RESET_OUT` (R26). -/
  resetOut : ResetOut
  /-- CR6 `STATUS` (R27). -/
  status : Result
  /-- CR7 `SEQ` (R28). -/
  seq : Seq
  /-- The operands latched by the operation in progress (R29). -/
  operands : Operands
  /-- `RES` (R30). -/
  res : ResVal
  /-- `TXBUF` (R31). -/
  txbuf : Buf
  /-- `RXBUF` (R32). -/
  rxbuf : Buf
  /-- The events emitted so far, the first one first (R10). -/
  trace : List Event
  /-- The environment's draws to come (R7). -/
  env : Env
  /-- The external inputs to come. -/
  inbox : List Input
  /-- The next free value not yet used. -/
  fresh : Nat
deriving DecidableEq, Repr, Inhabited

/-- Why the machine stops. The spec has no fault of its own (R207): every error of an operation is a result in `STATUS`. -/
inductive Fault where
  /-- Raised by the sequencer's turn when `SEQ` stands at a micro-step that no rule numbers, or at a configuration record that the
  latched list does not have. No reachable state is such a state (Safety.lean, `Inv`). Safe: the model stops where the spec says
  nothing. -/
  | noSuchMicroStep (op : Op) (step : Nat)
deriving DecidableEq, Repr

/-- Why an instruction has no meaning. A refusal of the MCC (R208) is not one of these: it is a result, with a next state. -/
inductive Refusal where
  /-- Raised by an arm of `exec` for an instruction that has no meaning yet; no arm does. Safe: the model stops. -/
  | notModelled (mnemonic : String)
deriving DecidableEq, Repr

/-- The state right after a construction (R230, R41) with construction inputs `slot` and the parameters, in an environment where
acquiring the resources fails at `lost`, if at any (a draw, R41). -/
def State.construct (params : Params) (slot : Byte) (lost : Option Resource) (env : Env) : State where
  params := params
  slot := slot
  phase := .unidentified
  ident := ⟨false, Config.freeIdent 0⟩
  setup :=
    if 1 ≤ slot.toNat ∧ slot.toNat ≤ nSlots then
      match lost with
      | none => .ok
      | some r => .failed (.resource r)
    else .failed .slotOutOfRange
  taint := false
  resetOut := .unknown
  status := .ok
  seq := Seq.idle
  operands := Config.freeOperands 1
  res := Config.freeRes 2
  txbuf := ⟨3, []⟩
  rxbuf := ⟨4, []⟩
  trace := []
  env := env
  inbox := []
  fresh := 5

/-- The machine right after reset: an instance constructed in slot 3 with the parameters of 95_test_vectors.md, every resource acquired,
nothing drawn beforehand and nothing at its port (log entry 6). -/
def State.reset : State := State.construct Params.vectors 3 none ⟨[], [], [], []⟩

end Sys2Proof.Machine
end

