-- ==== Sys2Proof/Machine/Ops.lean ====
section
/-! DEFINITION. The named operations over the buffers and registers: reading and writing a buffer, emitting an event, ending an
operation with success, with an error (R210, this block's taking of an exception) or with a refusal (R208), and the resource primitives
and sub-sequences of 41_transport.md (R130 to R133). There is no return from an error (R213). -/

namespace Sys2Proof.Machine

/-! ### Frame buffers (R31, R32, R50, R55) -/

/-- The value a cell list gives an offset. -/
def cellAt (cells : List Host.Cell) (k : Nat) : Option Byte :=
  match cells with
  | [] => none
  | (j, v) :: rest => if j = k then some v else cellAt rest k

/-- A cell list with the byte at one offset set, offsets strictly rising. -/
def insertCell (k : Nat) (v : Byte) (cells : List Host.Cell) : List Host.Cell :=
  match cells with
  | [] => [(k, v)]
  | (j, w) :: rest =>
    if k < j then (k, v) :: (j, w) :: rest
    else if k = j then (k, v) :: rest
    else (j, w) :: insertCell k v rest

/-- The cells of consecutive bytes from an offset on. -/
def cellsFrom (off : Nat) (bytes : List Byte) : List Host.Cell :=
  match bytes with
  | [] => []
  | b :: rest => (off, b) :: cellsFrom (off + 1) rest

/-- Offsets strictly rising, from `lo` on and all below `cap`. -/
def cellsWf (lo cap : Nat) (cells : List Host.Cell) : Bool :=
  match cells with
  | [] => true
  | (j, _) :: rest => lo ≤ j && j < cap && cellsWf (j + 1) cap rest

/-- The canonical form of a buffer of `cap` bytes. -/
def Buf.wf (cap : Nat) (b : Buf) : Bool := cellsWf 0 cap b.cells

/-- The byte at an offset; a byte without a specified value is a free value (D26, U6). -/
def Buf.read (b : Buf) (k : Nat) : Byte :=
  match cellAt b.cells k with
  | some v => v
  | none => Config.freeByte b.gen k

/-- `b[k] <- v` (R9). -/
def Buf.write (b : Buf) (k : Nat) (v : Byte) : Buf := { b with cells := insertCell k v b.cells }

/-- Consecutive bytes written from an offset on. -/
def Buf.writeBytes (b : Buf) (off : Nat) (bytes : List Byte) : Buf :=
  match bytes with
  | [] => b
  | v :: rest => (b.write off v).writeBytes (off + 1) rest

/-- A buffer whose first bytes are given and whose other bytes are unspecified. -/
def Buf.ofBytes (gen : Nat) (bytes : List Byte) : Buf := ⟨gen, cellsFrom 0 bytes⟩

/-- A buffer with every byte unspecified. -/
def Buf.unspecified (gen : Nat) : Buf := ⟨gen, []⟩

/-- `v[i..j]`, half-open (R9). -/
def slice (v : View) (i j : Nat) : List Byte := (List.range' i (j - i)).map v

/-- The buffer `OP_BUFSEL` chooses (R29). -/
def State.bufOf (s : State) (sel : BufSel) : Buf :=
  match sel with
  | .tx => s.txbuf
  | .rx => s.rxbuf

/-- Bytes become unspecified: RXBUF (D27, R130). -/
def scrubRx (s : State) : State := { s with rxbuf := Buf.unspecified s.fresh, fresh := s.fresh + 1 }

/-! ### Events and the ends of an operation -/

/-- An event is emitted (R10). -/
def emit (e : Event) (s : State) : State := { s with trace := s.trace ++ [e] }

/-- `end Ok`: the result is reported and written, `RES` is written, the sequencer goes idle (R27, R28, R30, R200). -/
def finishOk (op : Op) (res : ResVal) (s : State) : State :=
  { s with status := .ok, res := res, seq := Seq.idle, trace := s.trace ++ [.result (.op op) .ok] }

/-- `PHASE` after an error: Unidentified for RESET and BUILD, else unchanged (R210). -/
def phaseAfterError (op : Op) (p : Phase) : Phase :=
  match op with
  | .reset => .unidentified
  | .build => .unidentified
  | _ => p

/-- `raise E` inside an operation (R210): the event, `STATUS`, `RES` unspecified, `PHASE` as the operation's rule says, `SEQ` idle.
Nothing else is undone or saved. -/
def raise (op : Op) (e : Result) (s : State) : State :=
  { s with
    status := e
    res := Config.freeRes s.fresh
    phase := phaseAfterError op s.phase
    seq := Seq.idle
    trace := s.trace ++ [.result (.op op) e]
    fresh := s.fresh + 1 }

/-- `raise E` in an operation that has performed a transfer: `RXBUF` is unspecified too (R32, D27). -/
def raiseScrubbed (op : Op) (e : Result) (s : State) : State := raise op e (scrubRx s)

/-- `refuse(reason)`: `STATUS` and the event, and nothing else (R208). -/
def refuse (op : OpId) (r : Reason) (s : State) : State :=
  { s with status := .refused r, trace := s.trace ++ [.result op (.refused r)] }

/-! ### Draws -/

/-- The draw of one look at the ready line (R7, R35). -/
def drawReady (s : State) : ReadyDraw × State :=
  match s.env.ready with
  | d :: rest => (d, { s with env := { s.env with ready := rest } })
  | [] => (Config.freeReady s.fresh, { s with fresh := s.fresh + 1 })

/-- The draw of one drive of the reset line (R130). -/
def drawDrive (s : State) : DriveDraw × State :=
  match s.env.drive with
  | d :: rest => (d, { s with env := { s.env with drive := rest } })
  | [] => (Config.freeDrive s.fresh, { s with fresh := s.fresh + 1 })

/-- The draw of one transfer (R130). -/
def drawXfer (s : State) : XferDraw × State :=
  match s.env.xfer with
  | d :: rest => (d, { s with env := { s.env with xfer := rest } })
  | [] => (Config.freeXfer s.fresh, { s with fresh := s.fresh + 1 })

/-- The draw of what an abandoned transfer left on the wire (U3). -/
def drawStray (s : State) : StrayDraw × State :=
  match s.env.stray with
  | d :: rest => (d, { s with env := { s.env with stray := rest } })
  | [] => (Config.freeStray s.fresh, { s with fresh := s.fresh + 1 })

/-- `n` received bytes: those that are given, and free values for the others (U16). -/
def received (tag n : Nat) (given : List Byte) : List Byte :=
  (List.range n).map fun k => given.getD k (Config.freeByte tag k)

/-! ### Resource primitives (R130) -/

/-- How a use of a resource, or a gate, ends: passed; held, to be tried again (Coop gate only); or failed with an error to raise. -/
inductive Attempt where
  | passed (s : State)
  | held (s : State)
  | failed (e : Result) (s : State)
deriving DecidableEq, Repr

/-- The register value of a level driven (R26). -/
def ResetOut.ofLevel : Level → ResetOut
  | .low => .low
  | .high => .high

/-- `DriveReset(level)` (R130). -/
def driveReset (level : Level) (s : State) : Attempt :=
  match drawDrive s with
  | (.drives, s) => .passed { emit (.reset level) s with resetOut := ResetOut.ofLevel level }
  | (.fails, s) => .failed (.resourceError .resetLine) { emit (.fail .resetLine) s with resetOut := .unknown }

/-- `Delay(d)`: it cannot fail (R130). -/
def delayFor (d : Duration) (s : State) : State := emit (.delay d) s

/-- The received bytes stand in `RXBUF[0..N]`, every other byte of it unspecified (R32, U6). -/
def receive (n : Nat) (given : List Byte) (s : State) : State :=
  let rx := received s.fresh n given
  { emit (.xfer (slice s.txbuf.read 0 n) rx) s with rxbuf := Buf.ofBytes s.fresh rx, fresh := s.fresh + 1 }

/-- `Xfer(N)`: one full-duplex transfer of `N` bytes each way (R55, R56, R130). -/
def xfer (n : Nat) (s : State) : Attempt :=
  match drawXfer s with
  | (.answers given, s) => .passed (receive n given s)
  | (.fails, s) => .failed (.resourceError .channel) (scrubRx (emit (.fail .channel) s))

/-! ### The ready gate and the prelude (R131 to R133) -/

/-- `Gate()`: one sample in Sync (R131), a hold until the line is asserted in Coop (R132). -/
def gate (s : State) : Attempt :=
  match drawReady s with
  | (.asserted, s) => .passed (emit (.ready .asserted) s)
  | (.fails, s) => .failed (.resourceError .readyLine) (emit (.fail .readyLine) s)
  | (.deasserted, s) =>
    match s.params.sched with
    | .sync => .failed .moduleUnavailable (emit (.ready .deasserted) s)
    | .coop => .held s

/-- The gate where it applies. -/
def gateIf (gated : Bool) (s : State) : Attempt := if gated then gate s else .passed s

/-- The turnaround delay where it is present; a present delay of 0 is waited (R133). -/
def delayIf (d : Option Duration) (s : State) : State :=
  match d with
  | some d => delayFor d s
  | none => s

/-- One half of the Prelude (R133): under BeforeDelay the gate comes first, under AfterDelay the delay does. -/
def preludeHalf (gated : Bool) (d : Option Duration) (second : Bool) (s : State) : Attempt :=
  match s.params.gateOrder, second with
  | .beforeDelay, false => gateIf gated s
  | .beforeDelay, true => .passed (delayIf d s)
  | .afterDelay, false => .passed (delayIf d s)
  | .afterDelay, true => gateIf gated s

/-- The state after an attempt of `op`: go on, hold, or raise. -/
def settle (op : Op) (goOn : State → State) : Attempt → State
  | .passed s => goOn s
  | .held s => s
  | .failed e s => raise op e s

/-- The same in an operation that has performed a transfer before. -/
def settleScrubbed (op : Op) (goOn : State → State) : Attempt → State
  | .passed s => goOn s
  | .held s => s
  | .failed e s => raiseScrubbed op e s

/-- `SEQ <- q` (R9, R28). -/
def seqTo (q : Seq) (s : State) : State := { s with seq := q }

/-! ### The receive side of the link -/

/-- The module presents bytes on the receive side of the link: they are the answer to the first transfer that no earlier presented bytes
answer (R7 (c), log entry 3). -/
def presentOnLink (bytes : List Byte) (s : State) : State :=
  { s with env := { s.env with xfer := s.env.xfer ++ [.answers bytes] } }

end Sys2Proof.Machine
end

