-- ==== Sys2Proof/Machine/Operands.lean ====
section
/-! DEFINITION. The operand forms: the checksum, frame and probe assembly, the payload field accesses, and the checks of the operand
values that R94 asks for before an operation starts. -/

namespace Sys2Proof.Machine

/-! ### The codec's arithmetic (R110, R111, R116) -/

/-- `sum8(s)`: the sum modulo 256 of the bytes of a sequence (R9). -/
def sum8 : List Byte → Byte
  | [] => 0
  | b :: rest => b + sum8 rest

/-- `compute_checksum(b, L) = sum8(b[0 .. L-1])`, offsets 0 to L-2 inclusive (R110, D1). -/
def computeChecksum (b : View) (L : Nat) : Byte := sum8 (slice b 0 (offChecksum L))

/-- The value of the length byte of a frame of total length `L`: `L - 1`, the offset of the checksum byte (R82, R96). -/
def lengthByte (L : Nat) : Byte := BitVec.ofNat 8 (offChecksum L)

/-- The six header bytes written at their offsets. -/
def writeHeaderBytes (b : Buf) (slot : Byte) (L : Nat) (dir mid mt midx : Byte) : Buf :=
  (((((b.write offSlot slot).write offLength (lengthByte L)).write offDir dir).write offMid mid).write offMt mt).write offMidx midx

/-- `write_header(b, slot, L, direction, module_id, message_type, message_index)`: the header, then the checksum over what stands in the
buffer (R111). -/
def writeHeader (b : Buf) (slot : Byte) (L : Nat) (dir mid mt midx : Byte) : Buf :=
  let h := writeHeaderBytes b slot L dir mid mt midx
  h.write (offChecksum L) (computeChecksum h.read L)

/-- The transmit frame of `Assemble` (R134): the payload first, the header and checksum second. The bytes from offset `L` on are
unspecified (R31, U6; log entry 7). -/
def frameImage (gen : Nat) (slot : Byte) (L : Nat) (dir mid mt midx : Byte) (payload : List Byte) : Buf :=
  writeHeader ((Buf.unspecified gen).writeBytes offPayload payload) slot L dir mid mt midx

/-- `Assemble(L, dir, mid, mt, midx, payload)` into `TXBUF` (R134). -/
def assemble (L : Nat) (dir mid mt midx : Byte) (payload : List Byte) (s : State) : State :=
  { s with txbuf := frameImage s.fresh s.slot L dir mid mt midx payload, fresh := s.fresh + 1 }

/-- The transmit frame of the probe without its last byte: 19, P - 1, 19, then zeros at offsets 3 to P-2 (R89, R135, D6). -/
def probeHead (gen P : Nat) : Buf :=
  ((((Buf.unspecified gen).writeBytes offProbeFill (List.replicate (offChecksum P - offProbeFill) 0)).write offProbeCmd0 probeCmd).write
    offProbeLength (lengthByte P)).write offProbeCmd2 probeCmd

/-- The probe (R89, R135): its last byte is the checksum where `PROBE_TX_CHECKSUM`, else 0 (D7). -/
def probeImage (gen P : Nat) (withChecksum : Bool) : Buf :=
  (probeHead gen P).write (offChecksum P) (if withChecksum then computeChecksum (probeHead gen P).read P else 0)

/-- Step 0 of ESC: the probe stands in `TXBUF` (R135). -/
def assembleProbe (P : Nat) (s : State) : State :=
  { s with txbuf := probeImage s.fresh P s.params.probeTxChecksum, fresh := s.fresh + 1 }

/-- The payload of the received frame, `RXBUF[6 .. L-1]` (R30, R136). -/
def rxPayload (s : State) (L : Nat) : List Byte := slice s.rxbuf.read offPayload (offChecksum L)

/-- The identity a probe response carries at offsets 6, 7, 8 (R90). -/
def identOf (b : View) : Ident := ⟨b idOff, b (idOff + 1), b (idOff + 2)⟩

/-! ### Payload fields (R51, R54, R55, R114, R115): not operations of the host -/

/-- The widths of a payload field: 8, 16 or 32 bits (R55, D36). -/
inductive FieldWidth where
  | w8
  | w16
  | w32
deriving DecidableEq, Repr

/-- The bytes of a field. -/
def FieldWidth.bytes : FieldWidth → Nat
  | .w8 => 1
  | .w16 => 2
  | .w32 => 4

/-- The little-endian value of a sequence of bytes (R51). -/
def leValue : List Byte → Nat
  | [] => 0
  | b :: rest => b.toNat + 256 * leValue rest

/-- The field lies wholly in the payload region (R54, R114). -/
def fieldInside (N : FieldWidth) (off L : Nat) : Bool := offPayload ≤ off && off + N.bytes ≤ offChecksum L

/-- `le_N(b, off)` in a frame of length `L`; refused outside the payload region (R114, U19). -/
def le (N : FieldWidth) (b : View) (off L : Nat) : Option Nat :=
  if fieldInside N off L then some (leValue (slice b off (off + N.bytes))) else none

/-- The two's-complement reading of an unsigned value of `n` bytes (R9, R114, G1). -/
def signedOf (n v : Nat) : Int := if 256 ^ n ≤ 2 * v then (v : Int) - 256 ^ n else v

/-- `sle_N(b, off)` in a frame of length `L` (R114). -/
def sle (N : FieldWidth) (b : View) (off L : Nat) : Option Int := (le N b off L).map (signedOf N.bytes)

/-- The `n` little-endian bytes of a value, taken modulo `256 ^ n` (R115, G2). -/
def leBytes : Nat → Int → List Byte
  | 0, _ => []
  | n + 1, v => BitVec.ofInt 8 v :: leBytes n (v / 256)

/-- `put_le_N(b, off, v)` in a frame of length `L`; refused outside the payload region (R115, U19). -/
def putLe (N : FieldWidth) (b : Buf) (off L : Nat) (v : Int) : Option Buf :=
  if fieldInside N off L then some (b.writeBytes off (leBytes N.bytes v)) else none

/-! ### The checks of operand values (R94, R208) -/

/-- `7 <= L <= FRAME_CAP` (R8). -/
def lenLegal (s : State) (L : Len) : Bool := minLen ≤ L.toNat && L.toNat ≤ s.params.frameCap

/-- The payload has exactly `L - 7` bytes (R94, D4). -/
def payloadFits (L : Len) (payload : List Byte) : Bool := payload.length == L.toNat - 7

/-- `MT` in 1 to 4 (R94). -/
def mtLegal (mt : Byte) : Bool := mt == mtModuleId || mt == mtConfiguration || mt == mtData || mt == mtFeedback

/-- `DIR` in 1 to 2 (R94, WRH). -/
def dirLegal (dir : Byte) : Bool := dir == dirToModule || dir == dirFromModule

/-- The refusal of the operands of CHK, VAL and ESC: their length alone is checked (R110, R112, R135). -/
def badLen (s : State) (L : Len) : Option Reason := if lenLegal s L then none else some .badLength

/-- The refusal of the operands of WRH (R94, R111). -/
def badHeader (s : State) (L : Len) (dir mt : Byte) : Option Reason :=
  if !lenLegal s L then some .badLength
  else if !dirLegal dir then some .badDirection
  else if !mtLegal mt then some .badMessageType
  else none

/-- The refusal of the operands of XCHG, WR and XCHGE (R94, D21): the direction must be ToModule. -/
def badXfer (s : State) (a : XferArgs) : Option Reason :=
  if !(lenLegal s a.len && payloadFits a.len a.payload) then some .badLength
  else if !(a.dir == dirToModule) then some .badDirection
  else if !mtLegal a.mt then some .badMessageType
  else none

/-- A configuration record has a legal length and payload size (R94). -/
def cfgLenLegal (s : State) (f : CfgFrame) : Bool := lenLegal s f.len && payloadFits f.len f.payload

/-- The refusal of the operands of BUILD (R94, R161, R208): every record is checked, and there is at least one. -/
def badBuild (s : State) (P : Len) (cfg : List CfgFrame) : Option Reason :=
  if !(lenLegal s P && cfg.all (cfgLenLegal s)) then some .badLength
  else if !(cfg.all fun f => mtLegal f.mt) then some .badMessageType
  else if cfg.isEmpty then some .emptyConfig
  else none

end Sys2Proof.Machine
end

