-- ==== Sys2Proof/Machine/Admission.lean ====
section
/-! DEFINITION. Which requests are admitted, and the reason of a refusal when several apply (R94, R208, R209, R214, R215): the phases in
place of privilege modes. -/

namespace Sys2Proof.Machine

/-- The phase column of the table of R215. `PHASE = Reset` at rest is no reachable state; there only the codec is admitted. -/
def phaseAdmits (op : Op) (p : Phase) : Bool :=
  match op with
  | .chk => true
  | .wrh => true
  | .val => true
  | .echo => true
  | .esc => p == .unidentified
  | .xchg => p == .bound
  | .wr => p == .bound
  | .srst => p == .unidentified
  | .rrdy => p == .unidentified || p == .bound
  | .xchge => p == .bound
  | .reset => p == .unidentified
  | .build => p == .unidentified
  | .degrade => p == .bound
  | .abandon => true

/-- The operations refused with `Tainted` while `TAINT = 1` (R215): those that touch the link, but RESET. -/
def needsTrust (op : Op) : Bool :=
  match op with
  | .esc => true
  | .xchg => true
  | .wr => true
  | .srst => true
  | .xchge => true
  | .build => true
  | _ => false

/-- Why a request is refused, if it is: the first reason in the order of R208; `bad` is what is wrong with the operands. -/
def refusal (s : State) (op : Op) (bad : Option Reason) : Option Reason :=
  if s.setup ≠ .ok then some .setupFailed
  else if op = .abandon then
    if s.params.sched = .coop ∧ s.seq.op ≠ none then none else some .nothingToAbandon
  else if s.seq.op ≠ none then some .busy
  else if !phaseAdmits op s.phase then some .wrongPhase
  else if s.taint && needsTrust op then some .tainted
  else bad

/-- A request: refused (R208), or accepted, and then its first micro-step is taken (R28). -/
def ifAdmitted (op : Op) (bad : Option Reason) (act : State → State) (s : State) : State :=
  match refusal s op bad with
  | some r => refuse (.op op) r s
  | none => act s

/-- Why a request with a command code of no row is refused (R92, R208). -/
def refusalUnknown (s : State) : Reason :=
  if s.setup ≠ .ok then .setupFailed
  else if s.seq.op ≠ none then .busy
  else .unknownCommand

end Sys2Proof.Machine
end

