-- ==== Sys2Proof/Machine/Flags.lean ====
section
/-! DEFINITION. The block has no status flags and no condition codes (R33). What stands in their place are the boolean conditions of the
Frame Codec on a received frame (R112, R113) and what an exchange makes of them (R136, R204, R205, R212). -/

namespace Sys2Proof.Machine

/-- `cks_ok(b, L)`: the last byte is the checksum of the others (R112). -/
def cksOk (b : View) (L : Nat) : Bool := b (offChecksum L) == computeChecksum b L

/-- `len_ok(b, L)`: the length byte is `L - 1` (R112). -/
def lenOk (b : View) (L : Nat) : Bool := b offLength == lengthByte L

/-- `dir_ok(b)`: the direction byte is FromModule (R112). -/
def dirOk (b : View) : Bool := b offDir == dirFromModule

/-- `validate_response(b, L)` (R112). -/
def validateResponse (b : View) (L : Nat) : Bool := cksOk b L && lenOk b L && dirOk b

/-- `check_echo(b, module_id, message_type, message_index)` (R113). -/
def checkEcho (b : View) (mid mt midx : Byte) : Bool :=
  b offDir == dirFromModule && b offMid == mid && b offMt == mt && b offMidx == midx

/-- What step 3 of XCHG and XCHGE raises: checksum, then length byte, then direction (R136, R212). -/
def responseError (b : View) (L : Nat) : Option Result :=
  if !(cksOk b L && lenOk b L) then some .checksumIncorrect
  else if !dirOk b then some .unableToSerDe
  else none

/-- What step 2 of BUILD raises (R161): the checksum where `PROBE_RX_CHECK`, then the identity. -/
def probeError (rxCheck : Bool) (b : View) (P : Nat) (idexp : Ident) : Option Result :=
  if rxCheck && !cksOk b P then some .checksumIncorrect
  else if !(identOf b == idexp) then some .identityMismatch
  else none

end Sys2Proof.Machine
end

