-- ==== Sys2Proof/Machine/Codec.lean ====
section
/-! DEFINITION. The Frame Codec operations CHK, WRH, VAL, ECHO (40_codec.md): each is one micro-step, touches no pin and emits no wire
event. -/

namespace Sys2Proof.Machine

open Host (Outcome)

/-- CHK: `RES <- compute_checksum(b, LEN)` (R110). -/
def execChk (buf : BufSel) (len : Len) (s : State) : Outcome State Fault Refusal :=
  .next (ifAdmitted .chk (badLen s len) (fun s =>
    finishOk .chk (.byte (computeChecksum (s.bufOf buf).read len.toNat))
      { s with operands := { s.operands with bufsel := encodeBufSel buf, len := len } }) s)

/-- WRH: `write_header` on `TXBUF` with the instance's slot (R111). -/
def execWrh (len : Len) (dir mid mt midx : Byte) (s : State) : Outcome State Fault Refusal :=
  .next (ifAdmitted .wrh (badHeader s len dir mt) (fun s =>
    finishOk .wrh .nothing
      { s with
        operands := { s.operands with len := len, dir := dir, mid := mid, mt := mt, midx := midx }
        txbuf := writeHeader s.txbuf s.slot len.toNat dir mid mt midx }) s)

/-- VAL: `RES <- validate_response(b, LEN)` (R112). -/
def execVal (buf : BufSel) (len : Len) (s : State) : Outcome State Fault Refusal :=
  .next (ifAdmitted .val (badLen s len) (fun s =>
    finishOk .val (.bool (validateResponse (s.bufOf buf).read len.toNat))
      { s with operands := { s.operands with bufsel := encodeBufSel buf, len := len } }) s)

/-- ECHO: `RES <- check_echo(b, MID, MT, MIDX)` (R113). -/
def execEcho (buf : BufSel) (mid mt midx : Byte) (s : State) : Outcome State Fault Refusal :=
  .next (ifAdmitted .echo none (fun s =>
    finishOk .echo (.bool (checkEcho (s.bufOf buf).read mid mt midx))
      { s with operands := { s.operands with bufsel := encodeBufSel buf, mid := mid, mt := mt, midx := midx } }) s)

end Sys2Proof.Machine
end

