-- ==== Sys2Proof/Machine/Transport.lean ====
section
/-! DEFINITION. The Transport operations ESC, XCHG, WR, SRST, RRDY (41_transport.md). A request's meaning latches its operands and takes
micro-step 0; the turns below take the others, one each. -/

namespace Sys2Proof.Machine

open Host (Outcome)

/-! ### The requests -/

/-- ESC, accepted: step 0 puts the probe into `TXBUF` (R135). -/
def execEsc (probeLen : Len) (s : State) : Outcome State Fault Refusal :=
  .next (ifAdmitted .esc (badLen s probeLen) (fun s =>
    seqTo (Seq.start .esc 1)
      (assembleProbe probeLen.toNat { s with operands := { s.operands with probeLen := probeLen } })) s)

/-- XCHG, accepted: step 0 assembles the frame in `TXBUF` (R136). -/
def execXchg (a : XferArgs) (s : State) : Outcome State Fault Refusal :=
  .next (ifAdmitted .xchg (badXfer s a) (fun s =>
    seqTo (Seq.start .xchg 1)
      (assemble a.len.toNat a.dir a.mid a.mt a.midx a.payload { s with operands := s.operands.withXferArgs a })) s)

/-- WR, accepted: step 0 assembles the frame in `TXBUF` (R137). -/
def execWr (a : XferArgs) (s : State) : Outcome State Fault Refusal :=
  .next (ifAdmitted .wr (badXfer s a) (fun s =>
    seqTo (Seq.start .wr 1)
      (assemble a.len.toNat a.dir a.mid a.mt a.midx a.payload { s with operands := s.operands.withXferArgs a })) s)

/-- SRST: `DriveReset(LEVEL); end Ok` (R138). -/
def execSrst (level : Level) (s : State) : Outcome State Fault Refusal :=
  .next (ifAdmitted .srst none (fun s =>
    settle .srst (finishOk .srst .nothing)
      (driveReset level { s with operands := { s.operands with level := encodeLevel level } })) s)

/-- RRDY with the draw of its one sample: it never raises ModuleUnavailable and never waits (R139). -/
def finishRrdy (d : ReadyDraw) (s : State) : State :=
  match d with
  | .asserted => finishOk .rrdy (.level .asserted) (emit (.ready .asserted) s)
  | .deasserted => finishOk .rrdy (.level .deasserted) (emit (.ready .deasserted) s)
  | .fails => raise .rrdy (.resourceError .readyLine) (emit (.fail .readyLine) s)

/-- RRDY: `RES <- SampleReady(); end Ok` (R139). -/
def execRrdy (s : State) : Outcome State Fault Refusal :=
  .next (ifAdmitted .rrdy none (fun s => finishRrdy (drawReady s).1 (drawReady s).2) s)

/-! ### The turns of the sequencer -/

/-- Steps 1 to 3 of ESC (R135): it validates nothing. -/
def escTurn (s : State) : Outcome State Fault Refusal :=
  match s.seq.step with
  | 1 => .next (settle .esc (seqTo (Seq.start .esc 2)) (gateIf s.params.escReadyGate s))
  | 2 => .next (settle .esc (seqTo (Seq.start .esc 3)) (xfer s.operands.probeLen.toNat s))
  | 3 => .next (finishOk .esc (.frame (slice s.rxbuf.read 0 s.operands.probeLen.toNat)) s)
  | n => .fault (.noSuchMicroStep .esc n)

/-- Step 1 of XCHG, WR and XCHGE, one half of the Prelude a turn (R133, R136). -/
def preludeTurn (op : Op) (gated : Bool) (s : State) : State :=
  settle op (fun t => seqTo (if s.seq.second then Seq.start op 2 else { Seq.start op 1 with second := true }) t)
    (preludeHalf gated s.operands.delay s.seq.second s)

/-- Step 2 of XCHG, WR and XCHGE (R136). -/
def xferTurn (op : Op) (s : State) : State :=
  settle op (seqTo (Seq.start op 3)) (xfer s.operands.len.toNat s)

/-- Step 3 of XCHG and XCHGE: the checks of the response (R136, R212). -/
def checkTurn (op : Op) (s : State) : State :=
  match responseError s.rxbuf.read s.operands.len.toNat with
  | some e => raiseScrubbed op e s
  | none => seqTo (Seq.start op 4) s

/-- Steps 1 to 4 of XCHG (R136). -/
def xchgTurn (s : State) : Outcome State Fault Refusal :=
  match s.seq.step with
  | 1 => .next (preludeTurn .xchg true s)
  | 2 => .next (xferTurn .xchg s)
  | 3 => .next (checkTurn .xchg s)
  | 4 => .next (finishOk .xchg (.payload (rxPayload s s.operands.len.toNat)) s)
  | n => .fault (.noSuchMicroStep .xchg n)

/-- Steps 1 to 3 of WR (R137): what comes in is ignored and `RXBUF` is unspecified. -/
def wrTurn (s : State) : Outcome State Fault Refusal :=
  match s.seq.step with
  | 1 => .next (preludeTurn .wr s.params.wrReadyGate s)
  | 2 => .next (xferTurn .wr s)
  | 3 => .next (finishOk .wr .nothing (scrubRx s))
  | n => .fault (.noSuchMicroStep .wr n)

end Sys2Proof.Machine
end

