-- ==== Sys2Proof/Machine/DriverInterface.lean ====
section
/-! DEFINITION. XCHGE, the exchange with echo validation (43_driver_interface.md R181). -/

namespace Sys2Proof.Machine

open Host (Outcome)

/-- XCHGE, accepted: step 0 as XCHG (R181). -/
def execXchge (a : XferArgs) (s : State) : Outcome State Fault Refusal :=
  .next (ifAdmitted .xchge (badXfer s a) (fun s =>
    seqTo (Seq.start .xchge 1)
      (assemble a.len.toNat a.dir a.mid a.mt a.midx a.payload { s with operands := s.operands.withXferArgs a })) s)

/-- Step 4 of XCHGE: the echo of the request (R113, R181). -/
def echoTurn (s : State) : State :=
  if checkEcho s.rxbuf.read s.operands.mid s.operands.mt s.operands.midx then seqTo (Seq.start .xchge 5) s
  else raiseScrubbed .xchge .unableToSerDe s

/-- Steps 1 to 5 of XCHGE (R181). -/
def xchgeTurn (s : State) : Outcome State Fault Refusal :=
  match s.seq.step with
  | 1 => .next (preludeTurn .xchge true s)
  | 2 => .next (xferTurn .xchge s)
  | 3 => .next (checkTurn .xchge s)
  | 4 => .next (echoTurn s)
  | 5 => .next (finishOk .xchge (.payload (rxPayload s s.operands.len.toNat)) s)
  | n => .fault (.noSuchMicroStep .xchge n)

end Sys2Proof.Machine
end

