-- ==== Sys2Proof/Machine/Lifecycle.lean ====
section
/-! DEFINITION. The Module Lifecycle operations RESET, BUILD, DEGRADE, ABANDON (42_lifecycle.md). -/

namespace Sys2Proof.Machine

open Host (Outcome)

/-! ### The requests -/

/-- RESET, accepted: step 0 (R160). -/
def execReset (s : State) : Outcome State Fault Refusal :=
  .next (ifAdmitted .reset none (fun s => seqTo (Seq.start .reset 1) { s with phase := .reset }) s)

/-- The sequencer position of BUILD before step `sub` of the ESC that its step 1 runs (R161). -/
def seqBuildProbe (sub : Nat) : Seq := ⟨some .build, 1, 0, sub, false⟩

/-- The sequencer position of BUILD before step `sub` of the XCHG or WR that sends record `i` (R161). -/
def seqBuildFrame (i sub : Nat) (second : Bool) : Seq := ⟨some .build, 3, i, sub, second⟩

/-- BUILD, accepted: step 0 of the ESC of its step 1 (R161). -/
def execBuild (idexp : Ident) (probeLen : Len) (cfg : List CfgFrame) (s : State) : Outcome State Fault Refusal :=
  .next (ifAdmitted .build (badBuild s probeLen cfg) (fun s =>
    seqTo (seqBuildProbe 1)
      (assembleProbe probeLen.toNat
        { s with operands := { s.operands with idexp := idexp, probeLen := probeLen, cfg := cfg } })) s)

/-- DEGRADE: Bound to Unidentified, no wire event, no failure (R162); `IDENT.id` is unspecified from then on (R23). -/
def execDegrade (s : State) : Outcome State Fault Refusal :=
  .next (ifAdmitted .degrade none (fun s =>
    finishOk .degrade .nothing
      { s with phase := .unidentified, ident := ⟨false, Config.freeIdent s.fresh⟩, fresh := s.fresh + 1 }) s)

/-- How many bytes the transfer under way has, where the next micro-step is a transfer (R165, U3). -/
def pendingXfer (s : State) : Option Nat :=
  match s.seq.op, s.seq.step, s.seq.sub with
  | some .esc, 2, _ => some s.operands.probeLen.toNat
  | some .xchg, 2, _ => some s.operands.len.toNat
  | some .wr, 2, _ => some s.operands.len.toNat
  | some .xchge, 2, _ => some s.operands.len.toNat
  | some .build, 1, 2 => some s.operands.probeLen.toNat
  | some .build, 3, 2 => (s.operands.cfg[s.seq.frame]?).map fun f => f.len.toNat
  | _, _, _ => none

/-- What an abandoned transfer of `n` bytes leaves in the trace: nothing, or an `EvXfer` of some or all of its bytes (R165, U3). -/
def strayEvent (n : Nat) (s : State) : State :=
  match drawStray s with
  | (.nothing, s) => s
  | (.partly count given, s) =>
    let k := min count n
    { emit (.xfer (slice s.txbuf.read 0 k) (received s.fresh k given)) s with fresh := s.fresh + 1 }

/-- The trace of the transfer under way, if one is. -/
def strayIfPending (s : State) : State :=
  match pendingXfer s with
  | some n => strayEvent n s
  | none => s

/-- The operations whose abandonment returns the instance to Unidentified (R165). -/
def abandonResetsPhase (op : Op) : Bool := op == .reset || op == .build

/-- ABANDON of `op` (R165): taint, unspecified buffers and `RES`, idle sequencer, `STATUS = Abandoned`. -/
def abandonOp (op : Op) (s : State) : State :=
  { s with
    phase := if abandonResetsPhase op then .unidentified else s.phase
    ident := if abandonResetsPhase op then ⟨false, Config.freeIdent s.fresh⟩ else s.ident
    taint := true
    txbuf := Buf.unspecified s.fresh
    rxbuf := Buf.unspecified (s.fresh + 1)
    res := Config.freeRes s.fresh
    seq := Seq.idle
    status := .abandoned
    trace := s.trace ++ [.result (.op op) .abandoned]
    fresh := s.fresh + 2 }

/-- ABANDON: admitted only while an operation is in progress in Coop mode (R165). -/
def execAbandon (s : State) : Outcome State Fault Refusal :=
  .next (ifAdmitted .abandon none (fun s =>
    match s.seq.op with
    | some op => abandonOp op (strayIfPending s)
    | none => s) s)

/-! ### The turns of the sequencer -/

/-- Steps 1 to 5 of RESET (R160). -/
def resetTurn (s : State) : Outcome State Fault Refusal :=
  match s.seq.step with
  | 1 => .next (settle .reset (seqTo (Seq.start .reset 2)) (driveReset .low s))
  | 2 => .next (seqTo (Seq.start .reset 3) (delayFor s.params.tRstLow s))
  | 3 => .next (settle .reset (seqTo (Seq.start .reset 4)) (driveReset .high s))
  | 4 => .next (seqTo (Seq.start .reset 5) (delayFor s.params.tRstHigh s))
  | 5 => .next (finishOk .reset .nothing { s with phase := .unidentified, taint := false })
  | n => .fault (.noSuchMicroStep .reset n)

/-- Step 1 of BUILD: steps 1 and 2 of its ESC (R135, R161). -/
def buildProbeTurn (s : State) : Outcome State Fault Refusal :=
  match s.seq.sub with
  | 1 => .next (settle .build (seqTo (seqBuildProbe 2)) (gateIf s.params.escReadyGate s))
  | 2 => .next (settle .build (seqTo (Seq.start .build 2)) (xfer s.operands.probeLen.toNat s))
  | _ => .fault (.noSuchMicroStep .build 1)

/-- An error of step 2 of BUILD: after IdentityMismatch the probe response stays in `RXBUF` (R206, C13), after another error `RXBUF` is
unspecified (R32). -/
def raiseProbe (e : Result) (s : State) : State :=
  if e = .identityMismatch then raise .build e s else raiseScrubbed .build e s

/-- Step 2 of BUILD: the checksum and the identity of the probe response (R161). -/
def identityTurn (s : State) : State :=
  match probeError s.params.probeRxCheck s.rxbuf.read s.operands.probeLen.toNat s.operands.idexp with
  | some e => raiseProbe e s
  | none => seqTo (seqBuildFrame 0 0 false) s

/-- The sequencer position of BUILD once record `i` has been sent: the next record, or step 4 (R161). -/
def seqAfterFrame (s : State) (i : Nat) : Seq :=
  if i + 1 < s.operands.cfg.length then seqBuildFrame (i + 1) 0 false else { Seq.start .build 4 with frame := i + 1 }

/-- Whether the frames of BUILD pass the ready gate: as XCHG does under Ack, as WR does under WriteOnly (R136, R137, R161). -/
def cfgGated (p : Params) : Bool :=
  match p.cfgMode with
  | .ack => true
  | .writeOnly => p.wrReadyGate

/-- The check of a configuration response: XCHG step 3 under Ack; nothing under WriteOnly, whose response is not looked at (R161). -/
def cfgError (p : Params) (b : View) (L : Nat) : Option Result :=
  match p.cfgMode with
  | .ack => responseError b L
  | .writeOnly => none

/-- The frame of record `f` assembled (R134, R161). -/
def assembleCfg (f : CfgFrame) (s : State) : State :=
  assemble f.len.toNat dirToModule f.mid f.mt f.midx f.payload s

/-- Step 3 of BUILD for record `f`: steps 0 to 3 of its XCHG, or 0 to 2 of its WR (R161). -/
def buildFrameTurn (f : CfgFrame) (s : State) : Outcome State Fault Refusal :=
  match s.seq.sub with
  | 0 => .next (seqTo (seqBuildFrame s.seq.frame 1 false) (assembleCfg f s))
  | 1 => .next (settleScrubbed .build
      (seqTo (if s.seq.second then seqBuildFrame s.seq.frame 2 false else seqBuildFrame s.seq.frame 1 true))
      (preludeHalf (cfgGated s.params) f.delay s.seq.second s))
  | 2 => .next (settle .build (seqTo (seqBuildFrame s.seq.frame 3 false)) (xfer f.len.toNat s))
  | 3 => .next (match cfgError s.params s.rxbuf.read f.len.toNat with
      | some e => raiseScrubbed .build e s
      | none => seqTo (seqAfterFrame s s.seq.frame) s)
  | _ => .fault (.noSuchMicroStep .build 3)

/-- Step 4 of BUILD: Bound, with the identity that was matched (R161); `RXBUF` is unspecified (R32). -/
def bindTurn (s : State) : State :=
  finishOk .build .nothing (scrubRx { s with phase := .bound, ident := ⟨true, s.operands.idexp⟩ })

/-- Steps 1 to 4 of BUILD (R161). -/
def buildTurn (s : State) : Outcome State Fault Refusal :=
  match s.seq.step with
  | 1 => buildProbeTurn s
  | 2 => .next (identityTurn s)
  | 3 =>
    match s.operands.cfg[s.seq.frame]? with
    | some f => buildFrameTurn f s
    | none => .fault (.noSuchMicroStep .build 3)
  | 4 => .next (bindTurn s)
  | n => .fault (.noSuchMicroStep .build n)

end Sys2Proof.Machine
end

