-- ==== Sys2Proof/Machine/Sequencer.lean ====
section
/-! DEFINITION. The sequencer's turn: the next micro-step of the operation in progress (R28). -/

namespace Sys2Proof.Machine

open Host (Outcome)

/-- One turn of the sequencer. Idle, it does nothing (R245). The operations of one micro-step are never in progress between two turns. -/
def advance (s : State) : Outcome State Fault Refusal :=
  match s.seq.op with
  | none => .next s
  | some .esc => escTurn s
  | some .xchg => xchgTurn s
  | some .wr => wrTurn s
  | some .xchge => xchgeTurn s
  | some .reset => resetTurn s
  | some .build => buildTurn s
  | some op => .fault (.noSuchMicroStep op s.seq.step)

end Sys2Proof.Machine
end

