-- ==== Sys2Proof/Machine/Wire.lean ====
section
/-! DEFINITION. The FRAME and PROBE rows of the table (R80, R89, R97). A frame on the wire is no request: an instance is reached by it
only on the receive side of its link, where the module may present any bytes (R7 (c), U16), those of a ToModule frame and of a probe
among them (V2 and V54 are answers with direction 1). So each row's meaning is that the module presents the frame: no register, no buffer
and no event changes, and the bytes are what the first transfer not yet answered draws (R130). What the checks make of them is the
exchange's rule (R136, R181, R161). -/

namespace Sys2Proof.Machine

open Host (Outcome)

/-- FRAME_TO_MODULEID presented on the receive side of the link. -/
def execFrameToModuleid (f : FrameArgs) (s : State) : Outcome State Fault Refusal :=
  .next (presentOnLink (frameBytes dirToModule mtModuleId f) s)

/-- FRAME_TO_CONFIGURATION presented on the receive side of the link. -/
def execFrameToConfiguration (f : FrameArgs) (s : State) : Outcome State Fault Refusal :=
  .next (presentOnLink (frameBytes dirToModule mtConfiguration f) s)

/-- FRAME_TO_DATA presented on the receive side of the link. -/
def execFrameToData (f : FrameArgs) (s : State) : Outcome State Fault Refusal :=
  .next (presentOnLink (frameBytes dirToModule mtData f) s)

/-- FRAME_TO_FEEDBACK presented on the receive side of the link. -/
def execFrameToFeedback (f : FrameArgs) (s : State) : Outcome State Fault Refusal :=
  .next (presentOnLink (frameBytes dirToModule mtFeedback f) s)

/-- FRAME_FROM_MODULEID presented on the receive side of the link. -/
def execFrameFromModuleid (f : FrameArgs) (s : State) : Outcome State Fault Refusal :=
  .next (presentOnLink (frameBytes dirFromModule mtModuleId f) s)

/-- FRAME_FROM_CONFIGURATION presented on the receive side of the link. -/
def execFrameFromConfiguration (f : FrameArgs) (s : State) : Outcome State Fault Refusal :=
  .next (presentOnLink (frameBytes dirFromModule mtConfiguration f) s)

/-- FRAME_FROM_DATA presented on the receive side of the link. -/
def execFrameFromData (f : FrameArgs) (s : State) : Outcome State Fault Refusal :=
  .next (presentOnLink (frameBytes dirFromModule mtData f) s)

/-- FRAME_FROM_FEEDBACK presented on the receive side of the link. -/
def execFrameFromFeedback (f : FrameArgs) (s : State) : Outcome State Fault Refusal :=
  .next (presentOnLink (frameBytes dirFromModule mtFeedback f) s)

/-- PROBE presented on the receive side of the link. -/
def execProbe (p : ProbeArgs) (s : State) : Outcome State Fault Refusal :=
  .next (presentOnLink (probeBytes p) s)

end Sys2Proof.Machine
end

