-- ==== Sys2Proof/Machine/Dispatch.lean ====
section
/-! DEFINITION. One arm per constructor of `Instr`, each one direct call of the instruction's meaning. -/

namespace Sys2Proof.Machine

def exec (i : Instr) (s : State) : Host.Outcome State Fault Refusal :=
  match i with
  | .chk buf len => Sys2Proof.Machine.execChk buf len s
  | .wrh len dir mid mt midx => Sys2Proof.Machine.execWrh len dir mid mt midx s
  | .val buf len => Sys2Proof.Machine.execVal buf len s
  | .echo buf mid mt midx => Sys2Proof.Machine.execEcho buf mid mt midx s
  | .esc probeLen => Sys2Proof.Machine.execEsc probeLen s
  | .xchg a => Sys2Proof.Machine.execXchg a s
  | .wr a => Sys2Proof.Machine.execWr a s
  | .srst level => Sys2Proof.Machine.execSrst level s
  | .rrdy => Sys2Proof.Machine.execRrdy s
  | .xchge a => Sys2Proof.Machine.execXchge a s
  | .reset => Sys2Proof.Machine.execReset s
  | .build idexp probeLen cfg => Sys2Proof.Machine.execBuild idexp probeLen cfg s
  | .degrade => Sys2Proof.Machine.execDegrade s
  | .abandon => Sys2Proof.Machine.execAbandon s
  | .frameToModuleid f => Sys2Proof.Machine.execFrameToModuleid f s
  | .frameToConfiguration f => Sys2Proof.Machine.execFrameToConfiguration f s
  | .frameToData f => Sys2Proof.Machine.execFrameToData f s
  | .frameToFeedback f => Sys2Proof.Machine.execFrameToFeedback f s
  | .frameFromModuleid f => Sys2Proof.Machine.execFrameFromModuleid f s
  | .frameFromConfiguration f => Sys2Proof.Machine.execFrameFromConfiguration f s
  | .frameFromData f => Sys2Proof.Machine.execFrameFromData f s
  | .frameFromFeedback f => Sys2Proof.Machine.execFrameFromFeedback f s
  | .probe p => Sys2Proof.Machine.execProbe p s

end Sys2Proof.Machine
end

