-- ==== Sys2Proof/Machine/Fetch.lean ====
section
/-! DEFINITION. What the machine does with a word at its port: it runs the instruction the decoder reads. -/

namespace Sys2Proof.Machine

open Host (Outcome)

/-- A word that stands for no instruction: a request is refused (R92, R208); bytes on the wire that match no row are presented like any
others, since every byte the module returns is a free input (R7, R95, U16). -/
def rejectWord (w : PortWord) (s : State) : State :=
  match w with
  | .request cmd _ => refuse (.unknown cmd) (refusalUnknown s) s
  | .wire bytes => presentOnLink bytes s

/-- The word's instruction is run. -/
def runWord (w : PortWord) (s : State) : Outcome State Fault Refusal :=
  match decode w with
  | .ok i => exec i s
  | .error _ => .next (rejectWord w s)

end Sys2Proof.Machine
end

