-- ==== Sys2Proof/Machine/Step.lean ====
section
/-! DEFINITION. One step of the machine: the next external input, or a micro-step of the sequencer. -/

namespace Sys2Proof.Machine

/-- One step. The inbox says which agent moves (log entry 4): with a word presented, the instance takes it, whether it is idle or busy
(R214); in a pause, or with nothing to come, the sequencer takes its next micro-step; a host that awaits the end lets the sequencer run
until it is idle. -/
def step (s : State) : Host.Outcome State Fault Refusal :=
  match s.inbox with
  | [] => advance s
  | .pause :: rest => advance { s with inbox := rest }
  | .await :: rest =>
    match s.seq.op with
    | none => .next { s with inbox := rest }
    | some _ => advance s
  | .present w :: rest => runWord w { s with inbox := rest }

/-- The word of a table row placed at the port, so that the very next step takes it (log entry 4). -/
def State.withFetchWord (s : State) (nbits w : Nat) : State :=
  { s with inbox := .present (wordOfTable nbits w) :: s.inbox }

end Sys2Proof.Machine
end

