-- ==== Sys2Proof/Machine/HostView.lean ====
section
/-! DEFINITION. What the host can read (R40): the control registers CR0 to CR7 with the encodings 10_state.md gives them, `RES`, and the
frame received. A read is a function of the state and changes nothing (R57). -/

namespace Sys2Proof.Machine

/-- The encoding of `PHASE` (R22). -/
def phaseCode : Phase → BitVec 2
  | .unidentified => 0
  | .reset => 1
  | .bound => 2

/-- The encoding of `SETUP` (R24). -/
def setupCode : Setup → BitVec 3
  | .ok => 0
  | .failed (.resource .channel) => 1
  | .failed (.resource .resetLine) => 2
  | .failed (.resource .readyLine) => 3
  | .failed (.resource .delaySource) => 4
  | .failed .slotOutOfRange => 5

/-- The encoding of `RESET_OUT` (R26). -/
def resetOutCode : ResetOut → BitVec 2
  | .unknown => 0
  | .low => 1
  | .high => 2

/-- The result codes of `STATUS` (R200). -/
def resultCode : Result → Byte
  | .ok => 0x00#8
  | .resourceError .channel => 0x01#8
  | .resourceError .resetLine => 0x02#8
  | .resourceError .readyLine => 0x03#8
  | .setupError _ => 0x04#8
  | .moduleUnavailable => 0x10#8
  | .checksumIncorrect => 0x11#8
  | .unableToSerDe => 0x12#8
  | .identityMismatch => 0x13#8
  | .refused .unknownCommand => 0x20#8
  | .refused .wrongPhase => 0x21#8
  | .refused .tainted => 0x22#8
  | .refused .busy => 0x23#8
  | .refused .setupFailed => 0x24#8
  | .refused .badLength => 0x25#8
  | .refused .badDirection => 0x26#8
  | .refused .badMessageType => 0x27#8
  | .refused .emptyConfig => 0x28#8
  | .refused .nothingToAbandon => 0x29#8
  | .abandoned => 0x30#8

/-- The command code of an operation (R92); in `SEQ.op`, Idle is `none`. -/
def opCode : Op → Byte
  | .chk => 0x01#8
  | .wrh => 0x02#8
  | .val => 0x03#8
  | .echo => 0x04#8
  | .esc => 0x10#8
  | .xchg => 0x11#8
  | .wr => 0x12#8
  | .srst => 0x13#8
  | .rrdy => 0x14#8
  | .xchge => 0x15#8
  | .reset => 0x20#8
  | .build => 0x21#8
  | .degrade => 0x22#8
  | .abandon => 0x23#8

/-- A control register as the host reads it. -/
inductive CtrlView where
  | slot (v : Byte)
  | phase (v : BitVec 2)
  | ident (valid : Bool) (id : Ident)
  | setup (v : BitVec 3)
  | taint (v : Bool)
  | resetOut (v : BitVec 2)
  | status (v : Byte)
  | seq (op : Option Op) (step frame : Nat)
deriving DecidableEq, Repr

/-- The host reads CR0 to CR7 (R21 to R28, R40); no other register number exists. What CR7 shows as
`SEQ.frame` outside BUILD, 0, is the model's choice (DESIGN CHOICE, log entry 25). -/
def State.readCtrl (s : State) (n : Nat) : Option CtrlView :=
  match n with
  | 0 => some (.slot s.slot)
  | 1 => some (.phase (phaseCode s.phase))
  | 2 => some (.ident s.ident.valid s.ident.id)
  | 3 => some (.setup (setupCode s.setup))
  | 4 => some (.taint s.taint)
  | 5 => some (.resetOut (resetOutCode s.resetOut))
  | 6 => some (.status (resultCode s.status))
  | 7 => some (.seq s.seq.op s.seq.step s.seq.frame)
  | _ => none

/-- The host reads `RES` (R30, R40). -/
def State.readRes (s : State) : ResVal := s.res

/-- The host may read the received frame: no operation is in progress and the last result is Ok (R40), or IdentityMismatch, after which
the probe response is left for it (R32, R206; log entry 24). -/
def State.rxReadable (s : State) : Bool := s.seq.op == none && (s.status == .ok || s.status == .identityMismatch)

/-- The host reads one byte of a frame buffer (R40). `TXBUF` is read by operations alone. Of `RXBUF` the host reads `RXBUF[0..L]`, the bytes
of the frame received, when it may; a byte that is unspecified (R32, U6) is no byte of it. -/
def State.readBuf (s : State) (sel : BufSel) (k : Nat) : Option Byte :=
  match sel with
  | .tx => none
  | .rx => if s.rxReadable then cellAt s.rxbuf.cells k else none

/-- What construction reports to whoever constructed the instance (R202, R230). -/
def constructResult (s : State) : Result :=
  match s.setup with
  | .ok => .ok
  | .failed f => .setupError f

end Sys2Proof.Machine
end

