-- ==== Sys2Proof/Safety.lean ====
section
/-! DEFINITION. What the statements say things in terms of: runs, the invariants of R38 and of the sequencer, the operation and the
operand check of a request, and the frames and events of an exchange written out as lists. -/

namespace Sys2Proof.Machine

open Host (Outcome)

/-- `k` steps of the machine, stopping at a fault or a refusal. -/
def steps : Nat → State → Outcome State Fault Refusal
  | 0, s => .next s
  | k + 1, s =>
    match step s with
    | .next t => steps k t
    | .fault f => .fault f
    | .refused r => .refused r

/-! ### Requests -/

/-- The operation a request asks for; a wire frame is none. -/
def opOf (i : Instr) : Option Op :=
  match i with
  | .chk _ _ => some .chk
  | .wrh _ _ _ _ _ => some .wrh
  | .val _ _ => some .val
  | .echo _ _ _ _ => some .echo
  | .esc _ => some .esc
  | .xchg _ => some .xchg
  | .wr _ => some .wr
  | .srst _ => some .srst
  | .rrdy => some .rrdy
  | .xchge _ => some .xchge
  | .reset => some .reset
  | .build _ _ _ => some .build
  | .degrade => some .degrade
  | .abandon => some .abandon
  | .frameToModuleid _ => none
  | .frameToConfiguration _ => none
  | .frameToData _ => none
  | .frameToFeedback _ => none
  | .frameFromModuleid _ => none
  | .frameFromConfiguration _ => none
  | .frameFromData _ => none
  | .frameFromFeedback _ => none
  | .probe _ => none

/-- What is wrong with the operands of a request, if anything is (R94). -/
def operandRefusal (s : State) (i : Instr) : Option Reason :=
  match i with
  | .chk _ len => badLen s len
  | .wrh len dir _ mt _ => badHeader s len dir mt
  | .val _ len => badLen s len
  | .esc p => badLen s p
  | .xchg a => badXfer s a
  | .wr a => badXfer s a
  | .xchge a => badXfer s a
  | .build _ p cfg => badBuild s p cfg
  | _ => none

/-- An instance that can take a request: constructed with success, no operation in progress. -/
def Ready (s : State) : Prop := s.setup = .ok ∧ s.seq.op = none

/-- `7 <= L <= FRAME_CAP` (R8). -/
def LegalLen (s : State) (L : Len) : Prop := 7 ≤ L.toNat ∧ L.toNat ≤ s.params.frameCap

/-- `MT` in 1 to 4 (R94). -/
def LegalMt (mt : Byte) : Prop := 1 ≤ mt.toNat ∧ mt.toNat ≤ 4

/-- The operands of XCHG, WR and XCHGE are legal (R94). -/
def LegalXfer (s : State) (a : XferArgs) : Prop :=
  LegalLen s a.len ∧ a.payload.length = a.len.toNat - 7 ∧ a.dir = 1 ∧ LegalMt a.mt

/-- A configuration record is legal (R94, R161). -/
def LegalCfg (s : State) (f : CfgFrame) : Prop :=
  LegalLen s f.len ∧ f.payload.length = f.len.toNat - 7 ∧ LegalMt f.mt

/-! ### Frames and events written out -/

/-- A sequence of bytes seen as a buffer. -/
def viewOf (bytes : List Byte) : View := fun k => bytes.getD k 0

/-- The frame the MCC builds (R80 to R88): six header bytes, the payload, and the sum of them all. -/
def frameOut (slot : Byte) (L : Nat) (dir mid mt midx : Byte) (payload : List Byte) : List Byte :=
  let body := [slot, BitVec.ofNat 8 (L - 1), dir, mid, mt, midx] ++ payload
  body ++ [sum8 body]

/-- The request frame of XCHG, WR and XCHGE. -/
def requestFrame (slot : Byte) (a : XferArgs) : List Byte := frameOut slot a.len.toNat 1 a.mid a.mt a.midx a.payload

/-- The probe (R89): 19, P - 1, 19, zeros, and a last byte that is the sum of the others or zero. -/
def probeOut (P : Nat) (withChecksum : Bool) : List Byte :=
  let body := [19, BitVec.ofNat 8 (P - 1), 19] ++ List.replicate (P - 4) 0
  body ++ [if withChecksum then sum8 body else 0]

/-- The events of a gate that passes. -/
def gateEvents (gated : Bool) : List Event := if gated then [.ready .asserted] else []

/-- The events of a turnaround delay (R133): none where it is absent. -/
def delayEvents (d : Option Duration) : List Event :=
  match d with
  | none => []
  | some d => [.delay d]

/-- The events of a prelude whose gate passes (R133). -/
def preludeEvents (o : GateOrder) (gated : Bool) (d : Option Duration) : List Event :=
  match o with
  | .beforeDelay => gateEvents gated ++ delayEvents d
  | .afterDelay => delayEvents d ++ gateEvents gated

/-- The events of a prelude whose gate finds the line deasserted in Sync (R203). -/
def notReadyEvents (o : GateOrder) (d : Option Duration) : List Event :=
  match o with
  | .beforeDelay => [.ready .deasserted]
  | .afterDelay => delayEvents d ++ [.ready .deasserted]

/-- The number of transfers in a trace. -/
def xferCount (trace : List Event) : Nat := trace.countP fun e => match e with | .xfer _ _ => true | _ => false

/-- Everything an exchange leaves alone: the parameters, SLOT, PHASE, IDENT, SETUP, TAINT, RESET_OUT and the inputs to come. -/
def SameRegisters (s t : State) : Prop :=
  t.params = s.params ∧ t.slot = s.slot ∧ t.phase = s.phase ∧ t.ident = s.ident ∧ t.setup = s.setup ∧ t.taint = s.taint ∧
    t.resetOut = s.resetOut ∧ t.inbox = s.inbox

/-- A buffer holds these bytes from offset 0 on. -/
def Holds (b : Buf) (bytes : List Byte) : Prop := ∀ k, k < bytes.length → b.read k = bytes.getD k 0

/-- The state `t` that a request of a transport operation leaves when it is accepted: the operands latched, the frame in `TXBUF`, the
sequencer at step 1, and nothing else changed. -/
def FrameStarted (s t : State) (op : Op) (a : XferArgs) : Prop :=
  t = { s with operands := s.operands.withXferArgs a, seq := Seq.start op 1, txbuf := t.txbuf, fresh := t.fresh } ∧
    Holds t.txbuf (requestFrame s.slot a)

/-- The operation that `t` had accepted has ended with a result: these events, then the result; the operands and `TXBUF` are as they were
when it was accepted, and every register but `RES` is as it was before. -/
def Ended (s t u : State) (op : Op) (r : Result) (events : List Event) : Prop :=
  SameRegisters s u ∧ u.operands = t.operands ∧ u.txbuf = t.txbuf ∧ u.seq = Seq.idle ∧ u.status = r ∧
    u.trace = s.trace ++ events ++ [.result (.op op) r]

/-- An operation has ended because a resource failed when it was used (R201): the failure and the result are reported, the error of its
origin is recorded, and the sequencer is idle. -/
def FailedWith (s t : State) (op : Op) (o : Origin) : Prop :=
  t.status = .resourceError o ∧ t.seq = Seq.idle ∧ t.trace = s.trace ++ [.fail o, .result (.op op) (.resourceError o)]

/-- An instance that admits XCHG, WR and XCHGE with these operands, on a link whose next answer has the frame's length. -/
def ExchangeReady (s : State) (a : XferArgs) (rx : List Byte) (xs : List XferDraw) : Prop :=
  Ready s ∧ s.phase = .bound ∧ s.taint = false ∧ s.inbox = [] ∧ LegalXfer s a ∧ s.env.xfer = .answers rx :: xs ∧
    rx.length = a.len.toNat

/-- An instance that admits ESC and BUILD. -/
def ProbeReady (s : State) : Prop := Ready s ∧ s.phase = .unidentified ∧ s.taint = false

/-- The state `t` that an accepted BUILD leaves: the operands latched, the probe in `TXBUF`, nothing else changed. -/
def BuildStarted (s t : State) (idexp : Ident) (P : Len) (cfg : List CfgFrame) : Prop :=
  t = { s with
        operands := { s.operands with idexp := idexp, probeLen := P, cfg := cfg }
        seq := seqBuildProbe 1
        txbuf := t.txbuf
        fresh := t.fresh } ∧
    Holds t.txbuf (probeOut P.toNat s.params.probeTxChecksum)

/-- The frame of a configuration record (R134, R161). -/
def cfgFrameOut (slot : Byte) (f : CfgFrame) : List Byte := frameOut slot f.len.toNat 1 f.mid f.mt f.midx f.payload

/-- Whether a configuration frame passes the ready gate: under Ack as XCHG always does, else as WR does (R136, R137, R161). -/
def cfgGate (p : Params) : Bool := p.cfgMode == .ack || p.wrReadyGate

/-- The events of one configuration record that is sent and answered (R161). -/
def cfgEvents (p : Params) (slot : Byte) (f : CfgFrame) (rx : List Byte) : List Event :=
  preludeEvents p.gateOrder (cfgGate p) f.delay ++ [.xfer (cfgFrameOut slot f) rx]

/-- The module answers these records one after another: each answer has the frame's length, and under Ack it validates (R161, D13). -/
def Answered (p : Params) (cfg : List CfgFrame) (answers : List (List Byte)) : Prop :=
  List.Forall₂ (fun f rx => rx.length = f.len.toNat ∧
    (p.cfgMode = .ack → validateResponse (viewOf rx) f.len.toNat = true)) cfg answers

/-- The error `e` of a response of length `L` that does not validate: a wrong checksum or length byte is ChecksumIncorrect, and where both
are right the direction byte is wrong and it is UnableToSerDe (R136, R204, R205, R212). -/
def RejectedAs (rx : List Byte) (L : Nat) (e : Result) : Prop :=
  let sound := viewOf rx (L - 1) = sum8 (slice (viewOf rx) 0 (L - 1)) ∧ viewOf rx 1 = BitVec.ofNat 8 (L - 1)
  (¬sound → e = .checksumIncorrect) ∧ (sound → viewOf rx 2 ≠ 2 ∧ e = .unableToSerDe)

/-- The next micro-step is a ready gate. -/
def AtGate (s : State) : Prop :=
  let gateHalf := s.seq.second = (s.params.gateOrder == .afterDelay)
  (s.seq.op = some .esc ∧ s.seq.step = 1 ∧ s.params.escReadyGate = true) ∨
  (s.seq.op = some .xchg ∧ s.seq.step = 1 ∧ gateHalf) ∨
  (s.seq.op = some .wr ∧ s.seq.step = 1 ∧ gateHalf ∧ s.params.wrReadyGate = true) ∨
  (s.seq.op = some .xchge ∧ s.seq.step = 1 ∧ gateHalf) ∨
  (s.seq.op = some .build ∧ s.seq.step = 1 ∧ s.seq.sub = 1 ∧ s.params.escReadyGate = true) ∨
  (s.seq.op = some .build ∧ s.seq.step = 3 ∧ s.seq.sub = 1 ∧ s.seq.frame < s.operands.cfg.length ∧ gateHalf ∧
    cfgGate s.params = true)

/-- The same instance with the other scheduling model. -/
def withSched (c : Sched) (s : State) : State := { s with params := { s.params with sched := c } }

/-- The most transfers an operation performs (R140). -/
def maxXfers (i : Instr) : Nat :=
  match i with
  | .esc _ => 1
  | .xchg _ => 1
  | .wr _ => 1
  | .xchge _ => 1
  | .build _ _ cfg => 1 + cfg.length
  | _ => 0

/-- The next external input is a request for this operation. -/
def Asks (s : State) (i : Instr) : Prop := ∃ w rest, s.inbox = .present w :: rest ∧ decode w = .ok i

/-! ### The invariant -/

/-- A position of an operation without nested steps: one of its steps 1 to `last`; only step 1, where it is a prelude, has a second half. -/
def Seq.plain (q : Seq) (last : Nat) : Prop :=
  1 ≤ q.step ∧ q.step ≤ last ∧ q.frame = 0 ∧ q.sub = 0

/-- A position of XCHG, WR or XCHGE. -/
def Seq.exchange (q : Seq) (last : Nat) : Prop := q.plain last ∧ (q.second = true → q.step = 1)

/-- A position of BUILD with `n` records. -/
def Seq.building (q : Seq) (n : Nat) : Prop :=
  (q.step = 1 ∧ q.frame = 0 ∧ (q.sub = 1 ∨ q.sub = 2) ∧ q.second = false) ∨
  (q.step = 2 ∧ q.frame = 0 ∧ q.sub = 0 ∧ q.second = false) ∨
  (q.step = 3 ∧ q.frame < n ∧ q.sub ≤ 3 ∧ (q.second = true → q.sub = 1)) ∨
  (q.step = 4 ∧ q.frame = n ∧ q.sub = 0 ∧ q.second = false)

/-- The operation in progress stands at a micro-step its rule numbers, in the phase and with the operands it was admitted with. -/
def SeqLegal (s : State) : Prop :=
  match s.seq.op with
  | none => s.seq = Seq.idle
  | some .esc =>
    s.seq.plain 3 ∧ s.seq.second = false ∧ s.phase = .unidentified ∧ s.taint = false ∧ LegalLen s s.operands.probeLen
  | some .xchg => s.seq.exchange 4 ∧ s.phase = .bound ∧ s.taint = false ∧ LegalXfer s s.operands.xferArgs
  | some .wr => s.seq.exchange 3 ∧ s.phase = .bound ∧ s.taint = false ∧ LegalXfer s s.operands.xferArgs
  | some .xchge => s.seq.exchange 5 ∧ s.phase = .bound ∧ s.taint = false ∧ LegalXfer s s.operands.xferArgs
  | some .reset => s.seq.plain 5 ∧ s.seq.second = false
  | some .build =>
    s.seq.building s.operands.cfg.length ∧ s.phase = .unidentified ∧ s.taint = false ∧ LegalLen s s.operands.probeLen ∧
      s.operands.cfg ≠ [] ∧ ∀ f ∈ s.operands.cfg, LegalCfg s f
  | some _ => False

/-- The invariant of an instance: the parameters and the slot are legal, the buffers are canonical and lie in FRAME_CAP bytes, the
clauses (a), (b), (c) and (e) of R38 hold, and the sequencer stands at a position of its operation. -/
structure Inv (s : State) : Prop where
  cap : 7 ≤ s.params.frameCap ∧ s.params.frameCap ≤ 256
  slotLegal : s.setup = .ok → 1 ≤ s.slot.toNat ∧ s.slot.toNat ≤ 8
  txWf : s.txbuf.wf s.params.frameCap = true
  rxWf : s.rxbuf.wf s.params.frameCap = true
  boundIffValid : s.phase = .bound ↔ s.ident.valid = true
  resetIffResetting : s.phase = .reset ↔ s.seq.op = some .reset
  failedIsInert : s.setup ≠ .ok → s.phase = .unidentified ∧ s.seq = Seq.idle
  seqLegal : SeqLegal s

end Sys2Proof.Machine
end

