-- ==== Sys2Proof/Certificates/Slice0/Obligations.lean ====
section
/-! DEFINITION. The statements for the provers. Each says in its docstring which sentences of spec/ it formalises; where it rests on a
decision or an inference that the spec marks as its own, or on a choice of the model, it says so. Where one says `Seq.idle` or `Seq.start`, that `SEQ.frame` is 0 there, outside BUILD, is the
model's choice (log entry 25). -/

open Sys2Proof Sys2Proof.Machine

/-! ### Encoding -/

/-- Decoding an encoded well-formed instruction gives it back, for every constructor and every operand (R92, R97). -/
def Obligations.DecodeEncodeAgree : Prop :=
  ∀ i : Instr, WellFormed i = true → decode (encode i) = .ok i

/-- On the wire the other direction holds too: bytes that decode to an instruction are exactly its encoding (R97). -/
def Obligations.EncodeDecodeAgreeOnTheWire : Prop :=
  ∀ (bytes : List Byte) (i : Instr), decode (.wire bytes) = .ok i → encode i = .wire bytes ∧ WellFormed i = true

/-- A few words written out from the tables of R92, R80 and R89 decode to what they stand for, and so do the digits of two rows of the
opcode table: a command code, and a frame's first six bytes, byte 0 leftmost (R97). The command codes and the conventions of the table are
the spec's own numbering (its decision D19). That a row's six bytes are filled with a zero to a message of seven, so that the frame has the
tail [0], is the model's choice (log entry 4). -/
def Obligations.TableWordsDecode : Prop :=
  decode (.request 0x01 { Operands.zero with bufsel := 1, len := 10 }) = .ok (.chk .rx 10) ∧
  decode (.request 0x10 { Operands.zero with probeLen := 56 }) = .ok (.esc 56) ∧
  decode (.request 0x13 { Operands.zero with level := 1 }) = .ok (.srst .high) ∧
  decode (.request 0x22 Operands.zero) = .ok .degrade ∧
  decode (.wire [3, 9, 2, 0x0B, 3, 1, 0x2A, 0, 0, 0x47#8]) = .ok (.frameFromData ⟨3, 9, 0x0B, 1, [0x2A, 0, 0, 0x47#8]⟩) ∧
  decode (.wire [0x13#8, 9, 0x13#8, 0, 0, 0, 0, 0, 0, 0x2F]) = .ok (.probe ⟨9, [0, 0, 0, 0, 0, 0, 0x2F]⟩) ∧
  decodeTableWord 8 0x22 = some .degrade ∧ decodeTableWord 48 0x000002000300 = some (.frameFromData ⟨0, 0, 0, 0, [0]⟩)

/-- The fourteen command codes of R92, the operation that each selects with the operands it takes from the operand registers (R29), and that
no other code selects one. The codes are the spec's own numbering (its decision D19). -/
def Obligations.FourteenCommandCodes : Prop :=
  ∀ ops : Operands,
    let buf : BufSel := if ops.bufsel = 0#1 then .tx else .rx
    let a : XferArgs := ⟨ops.dir, ops.mid, ops.mt, ops.midx, ops.payload, ops.len, ops.delay⟩
    decode (.request 0x01 ops) = .ok (.chk buf ops.len) ∧
    decode (.request 0x02 ops) = .ok (.wrh ops.len ops.dir ops.mid ops.mt ops.midx) ∧
    decode (.request 0x03 ops) = .ok (.val buf ops.len) ∧
    decode (.request 0x04 ops) = .ok (.echo buf ops.mid ops.mt ops.midx) ∧
    decode (.request 0x10 ops) = .ok (.esc ops.probeLen) ∧
    decode (.request 0x11 ops) = .ok (.xchg a) ∧
    decode (.request 0x12 ops) = .ok (.wr a) ∧
    decode (.request 0x13 ops) = .ok (.srst (if ops.level = 0#1 then .low else .high)) ∧
    decode (.request 0x14 ops) = .ok .rrdy ∧
    decode (.request 0x15 ops) = .ok (.xchge a) ∧
    decode (.request 0x20 ops) = .ok .reset ∧
    decode (.request 0x21 ops) = .ok (.build ops.idexp ops.probeLen ops.cfg) ∧
    decode (.request 0x22 ops) = .ok .degrade ∧
    decode (.request 0x23 ops) = .ok .abandon ∧
    ∀ cmd : Byte, (∃ i, decode (.request cmd ops) = .ok i) ↔
      cmd ∈ [0x01#8, 0x02#8, 0x03#8, 0x04#8, 0x10#8, 0x11#8, 0x12#8, 0x13#8, 0x14#8, 0x15#8, 0x20#8, 0x21#8, 0x22#8, 0x23#8]

/-- A frame the MCC builds decodes as the FRAME_TO row of its message type, with the slot, `L - 1`, the payload and the checksum where
R80 puts them; a probe it builds decodes as the PROBE row. -/
def Obligations.TransmittedFramesAreTableRows : Prop :=
  (∀ (slot mid mt midx : Byte) (L : Nat) (payload : List Byte), 7 ≤ L → L ≤ 256 → payload.length = L - 7 →
    let f : FrameArgs := ⟨slot, BitVec.ofNat 8 (L - 1), mid, midx,
      payload ++ [sum8 ([slot, BitVec.ofNat 8 (L - 1), 1, mid, mt, midx] ++ payload)]⟩
    (mt = 1 → decode (.wire (frameOut slot L 1 mid mt midx payload)) = .ok (.frameToModuleid f)) ∧
    (mt = 2 → decode (.wire (frameOut slot L 1 mid mt midx payload)) = .ok (.frameToConfiguration f)) ∧
    (mt = 3 → decode (.wire (frameOut slot L 1 mid mt midx payload)) = .ok (.frameToData f)) ∧
    (mt = 4 → decode (.wire (frameOut slot L 1 mid mt midx payload)) = .ok (.frameToFeedback f))) ∧
  (∀ (P : Nat) (c : Bool), 7 ≤ P → P ≤ 256 →
    decode (.wire (probeOut P c)) = .ok (.probe ⟨BitVec.ofNat 8 (P - 1), (probeOut P c).drop 3⟩))

/-! ### The step -/

/-- A step with a word presented runs the instruction it decodes to, with the word taken off the port and nothing else added. That words
wait in the inbox and that a step takes the first one is the model's choice (log entry 4). -/
def Obligations.StepRunsTheDecodedInstruction : Prop :=
  ∀ (s : State) (w : PortWord) (rest : List Input) (i : Instr), s.inbox = .present w :: rest → decode w = .ok i →
    step s = exec i { s with inbox := rest }

/-- A command code of no row is refused with UnknownCommand by an idle instance, with Busy by a busy one, with SetupFailed after a failed
construction, and only `STATUS` and the trace change (R92, R208, R209, R214). That the event names the code, and that Busy and SetupFailed
come before UnknownCommand, is the model's choice (log entry 12). Wire bytes of no row are presented like any others (the model's choice,
log entry 3). -/
def Obligations.WordsOfNoRow : Prop :=
  ∀ (s : State) (rest : List Input),
    (∀ (cmd : Byte) (ops : Operands), s.inbox = .present (.request cmd ops) :: rest →
      cmd ∉ [0x01#8, 0x02#8, 0x03#8, 0x04#8, 0x10#8, 0x11#8, 0x12#8, 0x13#8, 0x14#8, 0x15#8, 0x20#8, 0x21#8, 0x22#8, 0x23#8] →
      ∃ r : Reason, step s = .next { s with
          inbox := rest, status := .refused r, trace := s.trace ++ [.result (.unknown cmd) (.refused r)] } ∧
        (s.setup ≠ .ok → r = .setupFailed) ∧ (s.setup = .ok → s.seq.op ≠ none → r = .busy) ∧
        (Ready s → r = .unknownCommand)) ∧
    (∀ (bytes : List Byte), s.inbox = .present (.wire bytes) :: rest → (∀ i, decode (.wire bytes) ≠ .ok i) →
      step s = .next { s with inbox := rest, env := { s.env with xfer := s.env.xfer ++ [.answers bytes] } })

/-- With no word presented the sequencer moves (R28): in a pause and with nothing to come it takes its next micro-step; under `await` it
does so until it is idle. An idle instance does not move (R245). The inbox is the model's own (log entry 4). -/
def Obligations.TurnsOfTheSequencer : Prop :=
  ∀ (s : State) (rest : List Input),
    (s.inbox = [] → step s = advance s) ∧
    (s.inbox = .pause :: rest → step s = advance { s with inbox := rest }) ∧
    (s.inbox = .await :: rest → s.seq.op = none → step s = .next { s with inbox := rest }) ∧
    (s.inbox = .await :: rest → s.seq.op ≠ none → step s = advance s) ∧
    (s.inbox = [] → s.seq.op = none → step s = .next s)

/-! ### Frame Codec -/

/-- CHK: `RES` is the sum modulo 256 of the bytes at offsets 0 to L-2 of `TXBUF` or of `RXBUF`, whichever is chosen; nothing else of the
state changes but the latched operands, `STATUS` and the trace (R29, R110; the convention is the spec's decision D1). -/
def Obligations.ChkComputesTheChecksum : Prop :=
  ∀ (s : State) (buf : BufSel) (len : Len), Ready s → LegalLen s len →
    let b : Buf := if buf = .tx then s.txbuf else s.rxbuf
    exec (.chk buf len) s = .next { s with
      operands := { s.operands with bufsel := encodeBufSel buf, len := len }
      res := .byte (BitVec.ofNat 8 ((List.range (len.toNat - 1)).map fun k => (b.read k).toNat).sum)
      status := .ok
      seq := Seq.idle
      trace := s.trace ++ [.result (.op .chk) .ok] }

/-- WRH, the whole of R111: its command code; on legal operands the six header bytes, the checksum over the payload that stands in
`TXBUF`, every other byte of `TXBUF` unchanged, and nothing else changed but the latched operands, `RES`, `STATUS` and the trace; on
illegal operands the three refusals. -/
def Obligations.WrhWritesHeaderAndChecksum : Prop :=
  (∀ ops : Operands, decode (.request 0x02 ops) = .ok (.wrh ops.len ops.dir ops.mid ops.mt ops.midx)) ∧
  ∀ (s : State) (len : Len) (dir mid mt midx : Byte), Ready s →
    (LegalLen s len → (dir = 1 ∨ dir = 2) → LegalMt mt →
      ∃ t, exec (.wrh len dir mid mt midx) s = .next t ∧
        t = { s with
          operands := { s.operands with len := len, dir := dir, mid := mid, mt := mt, midx := midx }
          txbuf := t.txbuf
          res := .nothing
          status := .ok
          seq := Seq.idle
          trace := s.trace ++ [.result (.op .wrh) .ok] } ∧
        (∀ k, k < 6 → t.txbuf.read k = [s.slot, BitVec.ofNat 8 (len.toNat - 1), dir, mid, mt, midx].getD k 0) ∧
        t.txbuf.read (len.toNat - 1) = sum8 (slice t.txbuf.read 0 (len.toNat - 1)) ∧
        (∀ k, 6 ≤ k → k ≠ len.toNat - 1 → t.txbuf.read k = s.txbuf.read k)) ∧
    (¬LegalLen s len → exec (.wrh len dir mid mt midx) s = .next { s with
      status := .refused .badLength, trace := s.trace ++ [.result (.op .wrh) (.refused .badLength)] }) ∧
    (LegalLen s len → dir ≠ 1 → dir ≠ 2 → exec (.wrh len dir mid mt midx) s = .next { s with
      status := .refused .badDirection, trace := s.trace ++ [.result (.op .wrh) (.refused .badDirection)] }) ∧
    (LegalLen s len → (dir = 1 ∨ dir = 2) → ¬LegalMt mt → exec (.wrh len dir mid mt midx) s = .next { s with
      status := .refused .badMessageType, trace := s.trace ++ [.result (.op .wrh) (.refused .badMessageType)] })

/-- VAL: `RES` says whether, in `TXBUF` or in `RXBUF`, whichever is chosen, the last byte is the checksum of the others, the length byte is
L-1 and the direction byte is 2 (R29, R112). -/
def Obligations.ValAnswersTheThreeConjuncts : Prop :=
  ∀ (s : State) (buf : BufSel) (len : Len), Ready s → LegalLen s len →
    let b : Buf := if buf = .tx then s.txbuf else s.rxbuf
    ∃ v : Bool,
      (v = true ↔ b.read (len.toNat - 1) = sum8 (slice b.read 0 (len.toNat - 1)) ∧
        b.read 1 = BitVec.ofNat 8 (len.toNat - 1) ∧ b.read 2 = 2) ∧
      exec (.val buf len) s = .next { s with
        operands := { s.operands with bufsel := encodeBufSel buf, len := len }
        res := .bool v
        status := .ok
        seq := Seq.idle
        trace := s.trace ++ [.result (.op .val) .ok] }

/-- ECHO: `RES` says whether, in `TXBUF` or in `RXBUF`, whichever is chosen, the direction byte is 2 and the bytes at offsets 3, 4, 5 are
the operands; the slot, the length byte and the checksum are not looked at (R113, with the spec's decision D37). -/
def Obligations.EchoComparesTheHeader : Prop :=
  ∀ (s : State) (buf : BufSel) (mid mt midx : Byte), Ready s →
    let b : Buf := if buf = .tx then s.txbuf else s.rxbuf
    ∃ v : Bool,
      (v = true ↔ b.read 2 = 2 ∧ b.read 3 = mid ∧ b.read 4 = mt ∧ b.read 5 = midx) ∧
      exec (.echo buf mid mt midx) s = .next { s with
        operands := { s.operands with bufsel := encodeBufSel buf, mid := mid, mt := mt, midx := midx }
        res := .bool v
        status := .ok
        seq := Seq.idle
        trace := s.trace ++ [.result (.op .echo) .ok] }

/-- A frame written with direction 2 validates; written with direction 1 it has a good checksum and length byte and fails on the
direction alone (the spec's round-trip law, which it marks as derived). -/
def Obligations.WrittenFramesValidate : Prop :=
  ∀ (b : Buf) (slot mid mt midx : Byte) (L : Nat), 7 ≤ L → L ≤ 256 →
    validateResponse (writeHeader b slot L 2 mid mt midx).read L = true ∧
    cksOk (writeHeader b slot L 1 mid mt midx).read L = true ∧ lenOk (writeHeader b slot L 1 mid mt midx).read L = true ∧
    validateResponse (writeHeader b slot L 1 mid mt midx).read L = false

/-- One changed byte in a frame with a good checksum is always detected (the spec's detection law, which it marks as derived). -/
def Obligations.OneChangedByteIsDetected : Prop :=
  ∀ (b b' : View) (L k : Nat), 1 ≤ L → k < L → b k ≠ b' k → (∀ j, j < L → j ≠ k → b j = b' j) → cksOk b L = true →
    cksOk b' L = false ∧ validateResponse b' L = false

/-- The checksum does not depend on the order of the bytes it sums (R110, corner cases). -/
def Obligations.ChecksumIgnoresOrder : Prop :=
  ∀ (b b' : View) (L : Nat), (slice b 0 (L - 1)).Perm (slice b' 0 (L - 1)) → computeChecksum b L = computeChecksum b' L

/-- A payload field reads back as it was written, modulo `2^N`; a signed value in range reads back whole (two's complement is the spec's
general-knowledge passage G1); the other bytes stay; outside the payload region both accesses are refused (R51, R114, R115). -/
def Obligations.PayloadFieldsReadBack : Prop :=
  ∀ (N : FieldWidth) (b : Buf) (off L : Nat) (v : Int),
    (6 ≤ off → off + N.bytes ≤ L - 1 →
      ∃ b', putLe N b off L v = some b' ∧
        le N b'.read off L = some (v % 256 ^ N.bytes).toNat ∧
        (-(256 ^ N.bytes) ≤ 2 * v → 2 * v < 256 ^ N.bytes → sle N b'.read off L = some v) ∧
        (∀ k, (k < off ∨ off + N.bytes ≤ k) → b'.read k = b.read k)) ∧
    ((off < 6 ∨ L - 1 < off + N.bytes) → putLe N b off L v = none ∧ le N b.read off L = none ∧ sle N b.read off L = none)

/-! ### Refusals -/

/-- A refused request, whichever and for whatever reason, changes `STATUS` and the trace and nothing else (the spec's decision D17). -/
def Obligations.RefusalChangesStatusOnly : Prop :=
  ∀ (i : Instr) (s : State) (op : Op) (r : Reason), opOf i = some op → refusal s op (operandRefusal s i) = some r →
    exec i s = .next { s with status := .refused r, trace := s.trace ++ [.result (.op op) (.refused r)] }

/-- After a failed construction every request is refused with SetupFailed (the spec's decision D31). -/
def Obligations.FailedSetupRefusesEveryRequest : Prop :=
  ∀ (i : Instr) (s : State) (op : Op), opOf i = some op → s.setup ≠ .ok →
    exec i s = .next { s with
      status := .refused .setupFailed, trace := s.trace ++ [.result (.op op) (.refused .setupFailed)] }

/-- While an operation is in progress every request but ABANDON is refused with Busy, and the running operation is not disturbed (the
spec's decision D35). -/
def Obligations.BusyRefusesEveryRequestButAbandon : Prop :=
  ∀ (i : Instr) (s : State) (op : Op), opOf i = some op → op ≠ .abandon → s.setup = .ok → s.seq.op ≠ none →
    exec i s = .next { s with status := .refused .busy, trace := s.trace ++ [.result (.op op) (.refused .busy)] }

/-- The table of phases and taint: which idle requests are refused with WrongPhase and which with Tainted (the spec's decisions D18 and
D20 for its rows ESC, SRST, RRDY and the codec). -/
def Obligations.PhaseAndTaintTable : Prop :=
  ∀ (i : Instr) (s : State) (op : Op), opOf i = some op → Ready s →
    (s.phase = .bound → op ∈ [.esc, .srst, .reset, .build] → exec i s = .next { s with
      status := .refused .wrongPhase, trace := s.trace ++ [.result (.op op) (.refused .wrongPhase)] }) ∧
    (s.phase = .unidentified → op ∈ [.xchg, .wr, .xchge, .degrade] → exec i s = .next { s with
      status := .refused .wrongPhase, trace := s.trace ++ [.result (.op op) (.refused .wrongPhase)] }) ∧
    (s.phase = .unidentified → s.taint = true → op ∈ [.esc, .srst, .build] → exec i s = .next { s with
      status := .refused .tainted, trace := s.trace ++ [.result (.op op) (.refused .tainted)] }) ∧
    (s.phase = .bound → s.taint = true → op ∈ [.xchg, .wr, .xchge] → exec i s = .next { s with
      status := .refused .tainted, trace := s.trace ++ [.result (.op op) (.refused .tainted)] }) ∧
    (s.phase = .bound ∨ s.phase = .unidentified → op ∈ [.chk, .wrh, .val, .echo, .rrdy] →
      refusal s op (operandRefusal s i) = operandRefusal s i)

/-- ABANDON with nothing to abandon: in Sync mode, or idle (R165, R200). -/
def Obligations.NothingToAbandon : Prop :=
  ∀ s : State, s.setup = .ok → (s.params.sched = .sync ∨ s.seq.op = none) →
    exec .abandon s = .next { s with
      status := .refused .nothingToAbandon
      trace := s.trace ++ [.result (.op .abandon) (.refused .nothingToAbandon)] }

/-- The operand refusals of the transport operations, BUILD, CHK, VAL and ESC, in their order: the length or the payload size, then the
direction, then the message type, then an empty configuration (R94, R110, R112, R135, R161, R200, R208). That they are refused is the
spec's decisions D17, D21, D30, D38. That BUILD's checks run over all its records together, and that BUILD refuses a bad PROBELEN, with the
BadLength that R200 gives for one, is the model's reading (log entry 23). -/
def Obligations.IllegalOperandsAreRefused : Prop :=
  (∀ (s : State) (a : XferArgs) (i : Instr) (op : Op),
    (i = .xchg a ∧ op = .xchg) ∨ (i = .wr a ∧ op = .wr) ∨ (i = .xchge a ∧ op = .xchge) →
    Ready s → s.phase = .bound → s.taint = false → ¬LegalXfer s a →
    ∃ r, exec i s = .next { s with status := .refused r, trace := s.trace ++ [.result (.op op) (.refused r)] } ∧
      (¬(LegalLen s a.len ∧ a.payload.length = a.len.toNat - 7) → r = .badLength) ∧
      (LegalLen s a.len → a.payload.length = a.len.toNat - 7 → a.dir ≠ 1 → r = .badDirection) ∧
      (LegalLen s a.len → a.payload.length = a.len.toNat - 7 → a.dir = 1 → r = .badMessageType)) ∧
  (∀ (s : State) (idexp : Ident) (P : Len) (cfg : List CfgFrame), ProbeReady s →
    ¬(LegalLen s P ∧ cfg ≠ [] ∧ ∀ f ∈ cfg, LegalCfg s f) →
    ∃ r, exec (.build idexp P cfg) s = .next { s with
        status := .refused r, trace := s.trace ++ [.result (.op .build) (.refused r)] } ∧
      ((¬LegalLen s P ∨ ∃ f ∈ cfg, ¬(LegalLen s f.len ∧ f.payload.length = f.len.toNat - 7)) → r = .badLength) ∧
      (LegalLen s P → (∀ f ∈ cfg, LegalLen s f.len ∧ f.payload.length = f.len.toNat - 7) → (∃ f ∈ cfg, ¬LegalMt f.mt) →
        r = .badMessageType) ∧
      (LegalLen s P → cfg = [] → r = .emptyConfig)) ∧
  (∀ (s : State) (buf : BufSel) (L : Len), Ready s → ¬LegalLen s L →
    exec (.chk buf L) s = .next { s with
      status := .refused .badLength, trace := s.trace ++ [.result (.op .chk) (.refused .badLength)] } ∧
    exec (.val buf L) s = .next { s with
      status := .refused .badLength, trace := s.trace ++ [.result (.op .val) (.refused .badLength)] } ∧
    (ProbeReady s → exec (.esc L) s = .next { s with
      status := .refused .badLength, trace := s.trace ++ [.result (.op .esc) (.refused .badLength)] }))

/-! ### Transport -/

/-- R134, frame assembly: the payload, header and checksum stand in `TXBUF`, and nothing else of the state changes but the model's own
counter of free values. -/
def Obligations.AssembledFrameIsOnTxbuf : Prop :=
  ∀ (s : State) (L : Nat) (dir mid mt midx : Byte) (payload : List Byte), 7 ≤ L → payload.length = L - 7 →
    let t := assemble L dir mid mt midx payload s
    Holds t.txbuf (frameOut s.slot L dir mid mt midx payload) ∧ t = { s with txbuf := t.txbuf, fresh := t.fresh }

/-- R131, the ready gate in Sync: one sample; asserted passes, deasserted raises ModuleUnavailable. The failure of the line is R130's. -/
def Obligations.SyncGateTakesOneSample : Prop :=
  ∀ (s : State) (rs : List ReadyDraw), s.params.sched = .sync →
    (s.env.ready = .asserted :: rs → gate s = .passed { s with
      env := { s.env with ready := rs }, trace := s.trace ++ [.ready .asserted] }) ∧
    (s.env.ready = .deasserted :: rs → gate s = .failed .moduleUnavailable { s with
      env := { s.env with ready := rs }, trace := s.trace ++ [.ready .deasserted] }) ∧
    (s.env.ready = .fails :: rs → gate s = .failed (.resourceError .readyLine) { s with
      env := { s.env with ready := rs }, trace := s.trace ++ [.fail .readyLine] })

/-- The Coop gate holds: while the line is found deasserted, a gate of any operation changes nothing but the draws taken, for as many
looks as there are (R132; that there is no time-out is the spec's decision D12). -/
def Obligations.CoopGateHolds : Prop :=
  ∀ (k : Nat) (s : State) (rs : List ReadyDraw), s.inbox = [] → s.params.sched = .coop → AtGate s →
    s.env.ready = List.replicate k .deasserted ++ rs →
    steps k s = .next { s with env := { s.env with ready := rs } }

/-- R201: a resource that fails when it is used ends the operation in progress with the error of its origin, reported and recorded, with
no further step: the channel at a transfer of ESC, XCHG, WR, XCHGE or BUILD; the ready line at a gate of these, in either scheduling
mode, and in RRDY; the reset line in SRST and at the two edges of RESET. -/
def Obligations.ResourceFailuresEndTheOperation : Prop :=
  (∀ (s : State) (op : Op) (n : Nat) (xs : List XferDraw), s.inbox = [] → s.seq.op = some op → pendingXfer s = some n →
    s.env.xfer = .fails :: xs →
    ∃ t, step s = .next t ∧ FailedWith s t op .channel ∧ (op = .build → t.phase = .unidentified) ∧
      (op ≠ .build → t.phase = s.phase) ∧ t.ident = s.ident ∧ t.taint = s.taint) ∧
  (∀ (s : State) (op : Op) (rs : List ReadyDraw), s.inbox = [] → s.seq.op = some op → AtGate s →
    s.env.ready = .fails :: rs →
    ∃ t, step s = .next t ∧ FailedWith s t op .readyLine ∧ (op = .build → t.phase = .unidentified) ∧
      (op ≠ .build → t.phase = s.phase) ∧ t.ident = s.ident ∧ t.taint = s.taint) ∧
  (∀ (s : State) (rs : List ReadyDraw), Ready s → s.phase ≠ .reset → s.env.ready = .fails :: rs →
    ∃ t, exec .rrdy s = .next t ∧ FailedWith s t .rrdy .readyLine ∧ t.phase = s.phase ∧ t.ident = s.ident ∧ t.taint = s.taint) ∧
  (∀ (s : State) (level : Level) (ds : List DriveDraw), ProbeReady s → s.env.drive = .fails :: ds →
    ∃ t, exec (.srst level) s = .next t ∧ FailedWith s t .srst .resetLine ∧ t.phase = s.phase ∧ t.ident = s.ident ∧
      t.taint = s.taint ∧ t.resetOut = .unknown) ∧
  (∀ (s : State) (ds : List DriveDraw), s.inbox = [] → s.seq.op = some .reset → (s.seq.step = 1 ∨ s.seq.step = 3) →
    s.env.drive = .fails :: ds →
    ∃ t, step s = .next t ∧ FailedWith s t .reset .resetLine ∧ t.phase = .unidentified ∧ t.ident = s.ident ∧
      t.taint = s.taint ∧ t.resetOut = .unknown)

/-- ESC: accepted, it puts the probe into `TXBUF`; then, past the gate where there is one, the probe is transferred and the whole
response is `RES`; nothing of the response is checked and `PHASE` is unchanged (R135, with the spec's decisions D6, D7, D9). -/
def Obligations.EscReturnsTheRawResponse : Prop :=
  ∀ (s : State) (P : Len) (rx : List Byte) (rs : List ReadyDraw) (xs : List XferDraw),
    ProbeReady s → LegalLen s P → s.inbox = [] → s.env.xfer = .answers rx :: xs → rx.length = P.toNat →
    (s.params.escReadyGate = true → s.env.ready = .asserted :: rs) →
    ∃ t u,
      exec (.esc P) s = .next t ∧
      t = { s with
        operands := { s.operands with probeLen := P }, seq := Seq.start .esc 1, txbuf := t.txbuf, fresh := t.fresh } ∧
      Holds t.txbuf (probeOut P.toNat s.params.probeTxChecksum) ∧
      steps 3 t = .next u ∧
      Ended s t u .esc .ok (gateEvents s.params.escReadyGate ++ [.xfer (probeOut P.toNat s.params.probeTxChecksum) rx]) ∧
      u.res = .frame rx ∧ Holds u.rxbuf rx ∧ u.env.xfer = xs

/-- XCHG with a good response: the frame is assembled, the gate and the turnaround delay are passed in the order the policy says, the
transfer is made, and `RES` is the payload received, under either scheduling model (R133, R136, with the spec's decisions D3, D11). -/
def Obligations.XchgDeliversThePayload : Prop :=
  ∀ (s : State) (a : XferArgs) (rx : List Byte) (rs : List ReadyDraw) (xs : List XferDraw),
    ExchangeReady s a rx xs → s.env.ready = .asserted :: rs → validateResponse (viewOf rx) a.len.toNat = true →
    ∃ t u,
      exec (.xchg a) s = .next t ∧ FrameStarted s t .xchg a ∧ steps 5 t = .next u ∧
      Ended s t u .xchg .ok
        (preludeEvents s.params.gateOrder true a.delay ++ [.xfer (requestFrame s.slot a) rx]) ∧
      u.res = .payload (slice (viewOf rx) 6 (a.len.toNat - 1)) ∧ Holds u.rxbuf rx ∧
      u.env = { s.env with ready := rs, xfer := xs }

/-- XCHG, XCHGE and a configuration frame of BUILD under Ack, with a bad response: a wrong checksum or length byte is ChecksumIncorrect,
else a wrong direction byte is UnableToSerDe; checksum and length come first; the phase stays (Unidentified in BUILD, whose `IDENT` stays
too), and no further step is taken. For BUILD: whichever frame gets the bad answer, once the frames before it have been acknowledged
(R136, R161, R204, R205, R212, with the spec's decisions D3, D13, D28). A probe response shorter than 9 bytes does not hold the identity
(log entry 10). -/
def Obligations.BadResponsesAreRejected : Prop :=
  (∀ (s : State) (a : XferArgs) (rx : List Byte) (rs : List ReadyDraw) (xs : List XferDraw) (i : Instr) (op : Op),
    (i = .xchg a ∧ op = .xchg) ∨ (i = .xchge a ∧ op = .xchge) →
    ExchangeReady s a rx xs → s.env.ready = .asserted :: rs → validateResponse (viewOf rx) a.len.toNat = false →
    ∃ t u e,
      exec i s = .next t ∧ FrameStarted s t op a ∧ steps 4 t = .next u ∧
      Ended s t u op e (preludeEvents s.params.gateOrder true a.delay ++ [.xfer (requestFrame s.slot a) rx]) ∧
      RejectedAs rx a.len.toNat e) ∧
  (∀ (s : State) (idexp : Ident) (P : Len) (sent : List CfgFrame) (f : CfgFrame) (unsent : List CfgFrame) (rsp : List Byte)
    (answers : List (List Byte)) (rx : List Byte) (rs : List ReadyDraw) (xs : List XferDraw),
    ProbeReady s → LegalLen s P → 9 ≤ P.toNat → (∀ g ∈ sent ++ f :: unsent, LegalCfg s g) → s.inbox = [] →
    s.params.cfgMode = .ack →
    s.env.xfer = .answers rsp :: (answers.map XferDraw.answers ++ .answers rx :: xs) → rsp.length = P.toNat →
    Answered s.params sent answers → rx.length = f.len.toNat → validateResponse (viewOf rx) f.len.toNat = false →
    s.env.ready = List.replicate ((if s.params.escReadyGate then 1 else 0) + sent.length + 1) .asserted ++ rs →
    (s.params.probeRxCheck = true → cksOk (viewOf rsp) P.toNat = true) → identOf (viewOf rsp) = idexp →
    ∃ t u e,
      exec (.build idexp P (sent ++ f :: unsent)) s = .next t ∧ BuildStarted s t idexp P (sent ++ f :: unsent) ∧
      steps (8 + 5 * sent.length) t = .next u ∧
      SameRegisters s u ∧ u.operands = t.operands ∧ u.seq = Seq.idle ∧ u.status = e ∧ RejectedAs rx f.len.toNat e ∧
      Holds u.txbuf (cfgFrameOut s.slot f) ∧ u.env = { s.env with ready := rs, xfer := xs } ∧
      u.trace = s.trace ++ gateEvents s.params.escReadyGate ++ [.xfer (probeOut P.toNat s.params.probeTxChecksum) rsp] ++
        (List.zipWith (cfgEvents s.params s.slot) sent answers).flatten ++ cfgEvents s.params s.slot f rx ++
        [.result (.op .build) e])

/-- A module that is not ready, in Sync, ends with ModuleUnavailable and no transfer at the gate: XCHG and XCHGE always, WR and ESC where
they are gated, BUILD at its probe where ESC is gated, and BUILD at any configuration frame that is gated, once the frames before it have
been sent (R131, R133, R135, R161, R203). The turnaround delay has been waited exactly under AfterDelay. That `RXBUF` is as before where no
transfer has happened is the model's reading (log entry 9). -/
def Obligations.NotReadyIsModuleUnavailable : Prop :=
  (∀ (s : State) (a : XferArgs) (rs : List ReadyDraw) (i : Instr) (op : Op),
    (i = .xchg a ∧ op = .xchg) ∨ (i = .xchge a ∧ op = .xchge) ∨ (i = .wr a ∧ op = .wr ∧ s.params.wrReadyGate = true) →
    Ready s → s.phase = .bound → s.taint = false → s.inbox = [] → LegalXfer s a → s.params.sched = .sync →
    s.env.ready = .deasserted :: rs →
    ∃ t u, exec i s = .next t ∧ FrameStarted s t op a ∧
      steps (if s.params.gateOrder = .beforeDelay then 1 else 2) t = .next u ∧
      Ended s t u op .moduleUnavailable (notReadyEvents s.params.gateOrder a.delay) ∧ u.rxbuf = s.rxbuf) ∧
  (∀ (s : State) (P : Len) (rs : List ReadyDraw), ProbeReady s → LegalLen s P → s.inbox = [] → s.params.sched = .sync →
    s.params.escReadyGate = true → s.env.ready = .deasserted :: rs →
    ∃ t u, exec (.esc P) s = .next t ∧ Holds t.txbuf (probeOut P.toNat s.params.probeTxChecksum) ∧ steps 1 t = .next u ∧
      Ended s t u .esc .moduleUnavailable [.ready .deasserted] ∧ u.rxbuf = s.rxbuf) ∧
  (∀ (s : State) (idexp : Ident) (P : Len) (cfg : List CfgFrame) (rs : List ReadyDraw), ProbeReady s → LegalLen s P → cfg ≠ [] →
    (∀ f ∈ cfg, LegalCfg s f) → s.inbox = [] → s.params.sched = .sync → s.params.escReadyGate = true →
    s.env.ready = .deasserted :: rs →
    ∃ t u, exec (.build idexp P cfg) s = .next t ∧ BuildStarted s t idexp P cfg ∧ steps 1 t = .next u ∧
      Ended s t u .build .moduleUnavailable [.ready .deasserted] ∧ u.rxbuf = s.rxbuf) ∧
  (∀ (s : State) (idexp : Ident) (P : Len) (sent : List CfgFrame) (f : CfgFrame) (unsent : List CfgFrame) (rsp : List Byte)
    (answers : List (List Byte)) (rs : List ReadyDraw) (xs : List XferDraw),
    ProbeReady s → LegalLen s P → 9 ≤ P.toNat → (∀ g ∈ sent ++ f :: unsent, LegalCfg s g) → s.inbox = [] →
    s.params.sched = .sync → cfgGate s.params = true →
    s.env.xfer = .answers rsp :: (answers.map XferDraw.answers ++ xs) → rsp.length = P.toNat →
    Answered s.params sent answers →
    s.env.ready = List.replicate ((if s.params.escReadyGate then 1 else 0) + sent.length) .asserted ++ .deasserted :: rs →
    (s.params.probeRxCheck = true → cksOk (viewOf rsp) P.toNat = true) → identOf (viewOf rsp) = idexp →
    ∃ t u,
      exec (.build idexp P (sent ++ f :: unsent)) s = .next t ∧ BuildStarted s t idexp P (sent ++ f :: unsent) ∧
      steps (4 + 5 * sent.length + if s.params.gateOrder = .beforeDelay then 1 else 2) t = .next u ∧
      SameRegisters s u ∧ u.operands = t.operands ∧ u.seq = Seq.idle ∧ u.status = .moduleUnavailable ∧
      Holds u.txbuf (cfgFrameOut s.slot f) ∧
      u.trace = s.trace ++ gateEvents s.params.escReadyGate ++ [.xfer (probeOut P.toNat s.params.probeTxChecksum) rsp] ++
        (List.zipWith (cfgEvents s.params s.slot) sent answers).flatten ++ notReadyEvents s.params.gateOrder f.delay ++
        [.result (.op .build) .moduleUnavailable])

/-- WR: the frame goes out past the gate where there is one; whatever comes in is ignored, and the result is Ok (R137, with the spec's
decision D10 on the gate). -/
def Obligations.WrIgnoresTheResponse : Prop :=
  ∀ (s : State) (a : XferArgs) (rx : List Byte) (rs : List ReadyDraw) (xs : List XferDraw),
    ExchangeReady s a rx xs → (s.params.wrReadyGate = true → s.env.ready = .asserted :: rs) →
    ∃ t u,
      exec (.wr a) s = .next t ∧ FrameStarted s t .wr a ∧ steps 4 t = .next u ∧
      Ended s t u .wr .ok
        (preludeEvents s.params.gateOrder s.params.wrReadyGate a.delay ++ [.xfer (requestFrame s.slot a) rx]) ∧
      u.res = .nothing

/-- SRST drives the reset line to either level and records it in `RESET_OUT`, Low or High; nothing else of the state changes but the
latched level, `RES`, `STATUS`, the draw taken and the trace (R130, R138). -/
def Obligations.SrstDrivesTheResetLine : Prop :=
  ∀ (s : State) (level : Level) (ds : List DriveDraw), ProbeReady s → s.env.drive = .drives :: ds →
    exec (.srst level) s = .next { s with
      operands := { s.operands with level := encodeLevel level }
      env := { s.env with drive := ds }
      resetOut := if level = .low then .low else .high
      res := .nothing
      status := .ok
      seq := Seq.idle
      trace := s.trace ++ [.reset level, .result (.op .srst) .ok] }

/-- RRDY reads the level of the ready line, in any resting phase, tainted or not, and never waits (R139). -/
def Obligations.RrdyReadsTheReadyLine : Prop :=
  ∀ (s : State) (rs : List ReadyDraw), Ready s → s.phase ≠ .reset →
    (s.env.ready = .asserted :: rs → exec .rrdy s = .next { s with
      env := { s.env with ready := rs }, res := .level .asserted, status := .ok, seq := Seq.idle
      trace := s.trace ++ [.ready .asserted, .result (.op .rrdy) .ok] }) ∧
    (s.env.ready = .deasserted :: rs → exec .rrdy s = .next { s with
      env := { s.env with ready := rs }, res := .level .deasserted, status := .ok, seq := Seq.idle
      trace := s.trace ++ [.ready .deasserted, .result (.op .rrdy) .ok] })

/-! ### Driver interface -/

/-- XCHGE with a good response that echoes the request: `RES` is the payload (R181). -/
def Obligations.XchgeDeliversAnEchoedPayload : Prop :=
  ∀ (s : State) (a : XferArgs) (rx : List Byte) (rs : List ReadyDraw) (xs : List XferDraw),
    ExchangeReady s a rx xs → s.env.ready = .asserted :: rs → validateResponse (viewOf rx) a.len.toNat = true →
    checkEcho (viewOf rx) a.mid a.mt a.midx = true →
    ∃ t u,
      exec (.xchge a) s = .next t ∧ FrameStarted s t .xchge a ∧ steps 6 t = .next u ∧
      Ended s t u .xchge .ok
        (preludeEvents s.params.gateOrder true a.delay ++ [.xfer (requestFrame s.slot a) rx]) ∧
      u.res = .payload (slice (viewOf rx) 6 (a.len.toNat - 1)) ∧ Holds u.rxbuf rx

/-- XCHGE with a good response that does not echo the module_id, message_type or message_index of the request ends UnableToSerDe (R181,
R205). -/
def Obligations.XchgeRejectsAForeignEcho : Prop :=
  ∀ (s : State) (a : XferArgs) (rx : List Byte) (rs : List ReadyDraw) (xs : List XferDraw),
    ExchangeReady s a rx xs → s.env.ready = .asserted :: rs → validateResponse (viewOf rx) a.len.toNat = true →
    (viewOf rx 3 ≠ a.mid ∨ viewOf rx 4 ≠ a.mt ∨ viewOf rx 5 ≠ a.midx) →
    ∃ t u,
      exec (.xchge a) s = .next t ∧ FrameStarted s t .xchge a ∧ steps 5 t = .next u ∧
      Ended s t u .xchge .unableToSerDe
        (preludeEvents s.params.gateOrder true a.delay ++ [.xfer (requestFrame s.slot a) rx])

/-- R182, the source's scenario: a response of length 55 with direction 2, module_id 11, message_type 3, message_index 1 and the bytes
01 00 00 00 at offset 6 decodes to channel1 = 1; the same response with direction 1 and the checksum re-derived is UnableToSerDe; without
re-deriving the checksum it is ChecksumIncorrect. Stated for every slot, every other payload byte and every request payload. -/
def Obligations.InputModuleScenario : Prop :=
  ∀ (s : State) (a : XferArgs) (rest : List Byte) (slot : Byte) (rs : List ReadyDraw) (xs : List XferDraw),
    rest.length = 44 → a.len = 55 → a.mid = 11 → a.mt = 3 → a.midx = 1 → s.env.ready = .asserted :: rs →
    let body (dir : Byte) : List Byte := [slot, 54, dir, 11, 3, 1, 1, 0, 0, 0] ++ rest
    (ExchangeReady s a (body 2 ++ [sum8 (body 2)]) xs →
      ∃ t u, exec (.xchge a) s = .next t ∧ steps 6 t = .next u ∧ u.status = .ok ∧ le .w32 u.rxbuf.read 6 55 = some 1) ∧
    (ExchangeReady s a (body 1 ++ [sum8 (body 1)]) xs →
      ∃ t u, exec (.xchge a) s = .next t ∧ steps 4 t = .next u ∧ u.status = .unableToSerDe) ∧
    (ExchangeReady s a (body 1 ++ [sum8 (body 2)]) xs →
      ∃ t u, exec (.xchge a) s = .next t ∧ steps 4 t = .next u ∧ u.status = .checksumIncorrect)

/-! ### Module Lifecycle -/

/-- RESET with a line that works: low, delay, high, delay, in the phase Reset between acceptance and the end; it ends Unidentified and
untainted, from a tainted instance too (R160, with the spec's decisions D2, D14, D18). -/
def Obligations.ResetPulsesTheLine : Prop :=
  ∀ (s : State) (ds : List DriveDraw), Ready s → s.phase = .unidentified → s.inbox = [] →
    s.env.drive = .drives :: .drives :: ds →
    ∃ t u,
      exec .reset s = .next t ∧ t = { s with phase := .reset, seq := Seq.start .reset 1 } ∧
      steps 5 t = .next u ∧
      (∀ k v, 1 ≤ k → k < 5 → steps k t = .next v → v.phase = .reset) ∧
      u = { s with
        env := { s.env with drive := ds }
        taint := false
        resetOut := .high
        res := .nothing
        status := .ok
        seq := Seq.idle
        trace := s.trace ++ [.reset .low, .delay s.params.tRstLow, .reset .high, .delay s.params.tRstHigh,
          .result (.op .reset) .ok] }

/-- RESET whose second edge fails: the error is reported, `RESET_OUT` is Unknown, the phase is Unidentified and `TAINT` stays (R160,
R240). -/
def Obligations.ResetFailsAtTheSecondEdge : Prop :=
  ∀ (s : State) (ds : List DriveDraw), Ready s → s.phase = .unidentified → s.inbox = [] →
    s.env.drive = .drives :: .fails :: ds →
    ∃ t u,
      exec .reset s = .next t ∧ steps 3 t = .next u ∧ u.phase = .unidentified ∧ u.taint = s.taint ∧ u.resetOut = .unknown ∧
      u.seq = Seq.idle ∧ u.status = .resourceError .resetLine ∧
      u.trace = s.trace ++ [.reset .low, .delay s.params.tRstLow, .fail .resetLine,
        .result (.op .reset) (.resourceError .resetLine)]

/-- BUILD, accepted: the operands are latched, the probe stands in `TXBUF` and the sequencer is in BUILD; nothing else changes (R161). -/
def Obligations.BuildStartsWithTheProbe : Prop :=
  ∀ (s : State) (idexp : Ident) (P : Len) (cfg : List CfgFrame), ProbeReady s → LegalLen s P → cfg ≠ [] →
    (∀ f ∈ cfg, LegalCfg s f) →
    ∃ t, exec (.build idexp P cfg) s = .next t ∧ BuildStarted s t idexp P cfg

/-- BUILD to its end: the probe, the identity, then every configuration frame in order, each past its gate and delay and each answered,
under Ack with a response that validates, under WriteOnly with any; before the last step the instance is Unidentified and in BUILD, and
the last step makes `PHASE` Bound and `IDENT` the identity matched. For any number of frames, in either configuration mode, gate order and
scheduling model (R161, with the spec's decisions D8, D13). A response shorter than 9 bytes does not hold the identity (log entry 10). -/
def Obligations.BuildBinds : Prop :=
  ∀ (s : State) (idexp : Ident) (P : Len) (cfg : List CfgFrame) (rsp : List Byte) (answers : List (List Byte))
    (rs : List ReadyDraw) (xs : List XferDraw),
    ProbeReady s → LegalLen s P → 9 ≤ P.toNat → cfg ≠ [] → (∀ f ∈ cfg, LegalCfg s f) → s.inbox = [] →
    s.env.xfer = .answers rsp :: (answers.map XferDraw.answers ++ xs) → rsp.length = P.toNat →
    Answered s.params cfg answers →
    s.env.ready = List.replicate ((if s.params.escReadyGate then 1 else 0) + (if cfgGate s.params then cfg.length else 0))
      .asserted ++ rs →
    (s.params.probeRxCheck = true → cksOk (viewOf rsp) P.toNat = true) → identOf (viewOf rsp) = idexp →
    ∃ t v u,
      exec (.build idexp P cfg) s = .next t ∧ BuildStarted s t idexp P cfg ∧
      steps (3 + 5 * cfg.length) t = .next v ∧ v.phase = .unidentified ∧ v.ident = s.ident ∧ v.seq.op = some .build ∧
      steps (4 + 5 * cfg.length) t = .next u ∧
      u.phase = .bound ∧ u.ident = ⟨true, idexp⟩ ∧ u.status = .ok ∧ u.seq = Seq.idle ∧ u.res = .nothing ∧
      u.slot = s.slot ∧ u.setup = s.setup ∧ u.taint = s.taint ∧ u.resetOut = s.resetOut ∧ u.params = s.params ∧
      u.operands = t.operands ∧
      u.trace = s.trace ++ gateEvents s.params.escReadyGate ++ [.xfer (probeOut P.toNat s.params.probeTxChecksum) rsp] ++
        (List.zipWith (cfgEvents s.params s.slot) cfg answers).flatten ++ [.result (.op .build) .ok]

/-- The identity gate: a probe response with a good checksum (where it is checked) whose identity differs from `IDEXP` in any of its three
bytes ends BUILD with IdentityMismatch, Unidentified, after one transfer, with the response left in `RXBUF` (R161, R189, R206, with the
spec's decisions D16, D27). -/
def Obligations.WrongIdentityIsRefused : Prop :=
  ∀ (s : State) (idexp : Ident) (P : Len) (cfg : List CfgFrame) (rsp : List Byte) (rs : List ReadyDraw) (xs : List XferDraw),
    ProbeReady s → LegalLen s P → 9 ≤ P.toNat → cfg ≠ [] → (∀ f ∈ cfg, LegalCfg s f) → s.inbox = [] →
    s.env.xfer = .answers rsp :: xs → rsp.length = P.toNat →
    (s.params.escReadyGate = true → s.env.ready = .asserted :: rs) →
    (s.params.probeRxCheck = true → cksOk (viewOf rsp) P.toNat = true) →
    (viewOf rsp 6 ≠ idexp.b0 ∨ viewOf rsp 7 ≠ idexp.b1 ∨ viewOf rsp 8 ≠ idexp.b2) →
    ∃ t u,
      exec (.build idexp P cfg) s = .next t ∧ BuildStarted s t idexp P cfg ∧ steps 3 t = .next u ∧
      Ended s t u .build .identityMismatch
        (gateEvents s.params.escReadyGate ++ [.xfer (probeOut P.toNat s.params.probeTxChecksum) rsp]) ∧
      Holds u.rxbuf rsp

/-- A probe response whose checksum is wrong ends BUILD with ChecksumIncorrect before the identity is looked at, where `PROBE_RX_CHECK`
(R161, R204, with the spec's decision D8). -/
def Obligations.ProbeChecksumComesFirst : Prop :=
  ∀ (s : State) (idexp : Ident) (P : Len) (cfg : List CfgFrame) (rsp : List Byte) (rs : List ReadyDraw) (xs : List XferDraw),
    ProbeReady s → LegalLen s P → cfg ≠ [] → (∀ f ∈ cfg, LegalCfg s f) → s.inbox = [] →
    s.env.xfer = .answers rsp :: xs → rsp.length = P.toNat →
    (s.params.escReadyGate = true → s.env.ready = .asserted :: rs) →
    s.params.probeRxCheck = true → cksOk (viewOf rsp) P.toNat = false →
    ∃ t u,
      exec (.build idexp P cfg) s = .next t ∧ BuildStarted s t idexp P cfg ∧ steps 3 t = .next u ∧
      Ended s t u .build .checksumIncorrect
        (gateEvents s.params.escReadyGate ++ [.xfer (probeOut P.toNat s.params.probeTxChecksum) rsp])

/-- However a turn of BUILD ends it, the instance is Bound with the expected identity and Ok, or Unidentified with no identity and an
error: ownership is always returned (R161, R163). -/
def Obligations.BuildEndsBoundOrUnidentified : Prop :=
  ∀ s t : State, Inv s → s.seq.op = some .build → advance s = .next t → t.seq.op = none →
    (t.status = .ok ∧ t.phase = .bound ∧ t.ident = ⟨true, s.operands.idexp⟩) ∨
    (t.status ≠ .ok ∧ t.phase = .unidentified ∧ t.ident.valid = false)

/-- DEGRADE: Bound to Unidentified, tainted or not; no wire event; the buffers, `TAINT`, `RESET_OUT` and `SLOT` are unchanged (R162); the
identity is unspecified afterwards (R23). -/
def Obligations.DegradeReturnsToUnidentified : Prop :=
  ∀ s : State, Ready s → s.phase = .bound →
    ∃ t, exec .degrade s = .next t ∧
      t = { s with
        phase := .unidentified
        ident := ⟨false, t.ident.id⟩
        res := .nothing
        status := .ok
        seq := Seq.idle
        fresh := t.fresh
        trace := s.trace ++ [.result (.op .degrade) .ok] }

/-- ABANDON of any operation in progress in Coop mode: tainted, idle, `STATUS` Abandoned; RESET and BUILD return to Unidentified, the
others keep the phase; `RESET_OUT` and the operands stay (R165, with the spec's decision D18). That only a transfer that is the next
micro-step leaves an event, and that the event has its first bytes each way, up to all of them, is the model's reading (log entry 13). -/
def Obligations.AbandonTaintsTheInstance : Prop :=
  ∀ (s : State) (op : Op), s.setup = .ok → s.params.sched = .coop → s.seq.op = some op →
    ∃ t stray,
      exec .abandon s = .next t ∧ t.taint = true ∧ t.seq = Seq.idle ∧ t.status = .abandoned ∧ t.resetOut = s.resetOut ∧
      t.slot = s.slot ∧ t.setup = s.setup ∧ t.params = s.params ∧ t.operands = s.operands ∧
      ((op = .reset ∨ op = .build) → t.phase = .unidentified ∧ t.ident.valid = false) ∧
      (op ≠ .reset → op ≠ .build → t.phase = s.phase ∧ t.ident = s.ident) ∧
      t.trace = s.trace ++ stray ++ [.result (.op op) .abandoned] ∧
      (stray = [] ∨ ∃ n k rx, pendingXfer s = some n ∧ k ≤ n ∧ rx.length = k ∧
        stray = [.xfer (slice s.txbuf.read 0 k) rx])

/-- `DEGRADE; BUILD` with the same operands in an environment that answers the same way (the same draws, the same free values) comes to
the same `PHASE`, `IDENT`, `TAINT`, `SLOT` and `STATUS` as the first BUILD and emits the same events (the spec's degrade-and-rebuild law,
which it marks as derived). -/
def Obligations.DegradeAndRebuild : Prop :=
  ∀ (s t u d : State) (idexp : Ident) (P : Len) (cfg : List CfgFrame) (k : Nat),
    ProbeReady s → s.inbox = [] → exec (.build idexp P cfg) s = .next t → steps k t = .next u → u.seq.op = none →
    u.phase = .bound → exec .degrade u = .next d →
    ∃ t' u' events,
      exec (.build idexp P cfg) { d with env := s.env, fresh := s.fresh } = .next t' ∧ steps k t' = .next u' ∧
      u'.phase = u.phase ∧ u'.ident = u.ident ∧ u'.taint = u.taint ∧ u'.slot = u.slot ∧ u'.status = u.status ∧
      u.trace = s.trace ++ events ∧ u'.trace = d.trace ++ events

/-! ### Frames and the probe on the receive side of the link -/

/-- Each FRAME row and the PROBE row: the module's bytes, written out as R80 and R89 lay them out, wait on the receive side of the link
behind those that already do, and nothing else of the state changes (the model's reading of these rows, log entry 3). -/
def Obligations.PresentedFramesWaitOnTheLink : Prop :=
  ∀ (s : State) (f : FrameArgs) (p : ProbeArgs),
    let waits (bytes : List Byte) : Host.Outcome State Fault Refusal :=
      .next { s with env := { s.env with xfer := s.env.xfer ++ [.answers bytes] } }
    exec (.frameToModuleid f) s = waits ([f.slot, f.length, 1, f.mid, 1, f.midx] ++ f.tail) ∧
    exec (.frameToConfiguration f) s = waits ([f.slot, f.length, 1, f.mid, 2, f.midx] ++ f.tail) ∧
    exec (.frameToData f) s = waits ([f.slot, f.length, 1, f.mid, 3, f.midx] ++ f.tail) ∧
    exec (.frameToFeedback f) s = waits ([f.slot, f.length, 1, f.mid, 4, f.midx] ++ f.tail) ∧
    exec (.frameFromModuleid f) s = waits ([f.slot, f.length, 2, f.mid, 1, f.midx] ++ f.tail) ∧
    exec (.frameFromConfiguration f) s = waits ([f.slot, f.length, 2, f.mid, 2, f.midx] ++ f.tail) ∧
    exec (.frameFromData f) s = waits ([f.slot, f.length, 2, f.mid, 3, f.midx] ++ f.tail) ∧
    exec (.frameFromFeedback f) s = waits ([f.slot, f.length, 2, f.mid, 4, f.midx] ++ f.tail) ∧
    exec (.probe p) s = waits ([19, p.length, 19] ++ p.tail)

/-- A frame that the module presents, with no other waiting, is what the next transfer of its length receives: byte k of the incoming stream
becomes `RXBUF[k]`, and the transfer's event carries the bytes of both directions (R50, R52, R130). That a frame presented outside a
transfer is kept and answers the next one is the model's choice (log entry 3). -/
def Obligations.PresentedFrameIsReceived : Prop :=
  ∀ (i : Instr) (bytes : List Byte) (s t : State), encode i = .wire bytes → s.env.xfer = [] → exec i s = .next t →
    ∃ u, xfer bytes.length t = .passed u ∧ Holds u.rxbuf bytes ∧ u.env.xfer = [] ∧ u.txbuf = s.txbuf ∧
      u.trace = s.trace ++ [.xfer (slice s.txbuf.read 0 bytes.length) bytes]

/-! ### The whole machine -/

/-- Construction: the state of R41 and R230; a slot outside 1 to 8 (R21, R24) or a resource that cannot be acquired (R24, R202) is recorded
in `SETUP`. The values other than the phase are the spec's decision D26; SlotOutOfRange for a bad slot is its decision D30. That a lost
resource is an argument of construction, that a bad slot is what `SETUP` records where a resource is lost too, and that `SLOT` holds a bad
slot, is the model's choice or reading (log entry 14), and so is that `SEQ.frame` is 0 (log entry 25). -/
def Obligations.ConstructionState : Prop :=
  ∀ (p : Params) (slot : Byte) (lost : Option Resource) (env : Env),
    let s := State.construct p slot lost env
    s.slot = slot ∧ s.phase = .unidentified ∧ s.ident.valid = false ∧ s.taint = false ∧ s.resetOut = .unknown ∧
    s.status = .ok ∧ s.seq = Seq.idle ∧ s.trace = [] ∧
    (s.setup = .ok ↔ (1 ≤ slot.toNat ∧ slot.toNat ≤ 8) ∧ lost = none) ∧
    (∀ r, 1 ≤ slot.toNat → slot.toNat ≤ 8 → lost = some r → s.setup = .failed (.resource r)) ∧
    (¬(1 ≤ slot.toNat ∧ slot.toNat ≤ 8) → s.setup = .failed .slotOutOfRange)

/-- The instance right after reset meets the invariant of the statements below. -/
def Obligations.ResetMeetsTheInvariant : Prop := Inv State.reset

/-- From every state that meets the invariant (R38 and the canonical form of the buffers) the machine takes a step, never a fault and never
a refusal, and the next state meets it. -/
def Obligations.EveryStepKeepsTheInvariant : Prop :=
  ∀ s : State, Inv s → ∃ t, step s = .next t ∧ Inv t

/-- No step changes `SLOT`, `SETUP` or the parameters, from any state (R20, R21, R24, R38 (d)). -/
def Obligations.ConstructionInputsNeverChange : Prop :=
  ∀ s t : State, step s = .next t → t.slot = s.slot ∧ t.setup = s.setup ∧ t.params = s.params

/-- The phase transitions are those of R166 and no others: a step that changes `PHASE` accepts RESET, or is a last step of RESET (done,
failed or abandoned), or step 4 of BUILD, or DEGRADE. -/
def Obligations.PhaseTransitions : Prop :=
  ∀ s t : State, Inv s → step s = .next t → t.phase ≠ s.phase →
    (s.phase = .unidentified ∧ t.phase = .reset ∧ s.seq.op = none ∧ Asks s .reset) ∨
    (s.phase = .reset ∧ t.phase = .unidentified ∧ s.seq.op = some .reset ∧ s.seq.step = 5 ∧ t.taint = false ∧
      t.status = .ok) ∨
    (s.phase = .reset ∧ t.phase = .unidentified ∧ s.seq.op = some .reset ∧ (s.seq.step = 1 ∨ s.seq.step = 3) ∧
      t.status = .resourceError .resetLine) ∨
    (s.phase = .reset ∧ t.phase = .unidentified ∧ s.params.sched = .coop ∧ Asks s .abandon ∧ t.taint = true) ∨
    (s.phase = .unidentified ∧ t.phase = .bound ∧ s.seq.op = some .build ∧ s.seq.step = 4 ∧ t.status = .ok) ∨
    (s.phase = .bound ∧ t.phase = .unidentified ∧ s.seq.op = none ∧ Asks s .degrade)

/-- `TAINT` is set by ABANDON alone and cleared by the last step of RESET alone, from any state (R25). -/
def Obligations.TaintTransitions : Prop :=
  ∀ s t : State, step s = .next t → t.taint ≠ s.taint →
    (t.taint = true ∧ t.status = .abandoned ∧ s.params.sched = .coop ∧ Asks s .abandon) ∨
    (t.taint = false ∧ s.seq.op = some .reset ∧ s.seq.step = 5 ∧ t.status = .ok)

/-- An instance whose construction failed emits nothing but refusals, and no register of it but `STATUS` ever changes (R38 (e), R209). -/
def Obligations.FailedInstanceOnlyRefuses : Prop :=
  ∀ s t : State, Inv s → s.setup ≠ .ok → step s = .next t →
    t.slot = s.slot ∧ t.phase = s.phase ∧ t.ident = s.ident ∧ t.setup = s.setup ∧ t.taint = s.taint ∧ t.resetOut = s.resetOut ∧
      t.seq = s.seq ∧ t.operands = s.operands ∧ t.res = s.res ∧ t.txbuf = s.txbuf ∧ t.rxbuf = s.rxbuf ∧
      (t.trace = s.trace ∨ ∃ op r, t.trace = s.trace ++ [.result op (.refused r)])

/-- Whenever the instance is idle it is in a phase from which the host can go on: RRDY is admitted, and RESET or DEGRADE is (R163, R166). -/
def Obligations.IdleInstancesAreUsable : Prop :=
  ∀ s t : State, Inv s → step s = .next t → t.setup = .ok → t.seq.op = none →
    t.phase ≠ .reset ∧ refusal t .rrdy none = none ∧ (refusal t .reset none = none ∨ refusal t .degrade none = none)

/-- No retry: however long a request runs, the operation performs at most one transfer; BUILD with n records at most 1 + n; every other
request none (R140). -/
def Obligations.NoTransferIsRepeated : Prop :=
  ∀ (i : Instr) (k : Nat) (s t u : State), Ready s → s.inbox = [] → exec i s = .next t → steps k t = .next u →
    xferCount u.trace ≤ xferCount s.trace + maxXfers i

/-- Scheduling independence: where no look at the ready line finds it deasserted and nothing is abandoned, a run in Sync and a run in Coop
give the same events, results and state (the spec's law, which it marks as derived). -/
def Obligations.SchedulingIndependence : Prop :=
  ∀ (k : Nat) (s t : State), k ≤ s.env.ready.length → (∀ d ∈ s.env.ready.take k, d ≠ .deasserted) →
    (∀ w, Input.present w ∈ s.inbox → decode w ≠ .ok .abandon) → steps k (withSched .sync s) = .next t →
    steps k (withSched .coop s) = .next (withSched .coop t)

/-- What the host reads. The codes: the results' of R200, the phases', setup values' and reset levels' of R22, R24, R26; values of one
register have different codes, but for the resource of a SetupError, which is in `SETUP` (R211). The registers: CR0 to CR7 by their numbers,
no other number, and `RES` (R21 to R28, R30, R40). The buffers: never `TXBUF`; `RXBUF` only when idle after Ok or IdentityMismatch, and then
the bytes of the frame received and no byte after them (R32, R40, R206). That exact condition is the model's reading (log entry 24); that
CR7 shows an index of BUILD, `SEQ.frame`, outside BUILD too is its choice (log entry 25); the numbers are the spec's decisions D15 and
D19. -/
def Obligations.RegisterCodesTellValuesApart : Prop :=
  (resultCode .ok = 0x00 ∧ resultCode (.resourceError .channel) = 0x01 ∧ resultCode (.resourceError .resetLine) = 0x02 ∧
    resultCode (.resourceError .readyLine) = 0x03 ∧ (∀ f, resultCode (.setupError f) = 0x04) ∧
    resultCode .moduleUnavailable = 0x10 ∧ resultCode .checksumIncorrect = 0x11 ∧ resultCode .unableToSerDe = 0x12 ∧
    resultCode .identityMismatch = 0x13 ∧ resultCode (.refused .unknownCommand) = 0x20 ∧
    resultCode (.refused .wrongPhase) = 0x21 ∧ resultCode (.refused .tainted) = 0x22 ∧ resultCode (.refused .busy) = 0x23 ∧
    resultCode (.refused .setupFailed) = 0x24 ∧ resultCode (.refused .badLength) = 0x25 ∧
    resultCode (.refused .badDirection) = 0x26 ∧ resultCode (.refused .badMessageType) = 0x27 ∧
    resultCode (.refused .emptyConfig) = 0x28 ∧ resultCode (.refused .nothingToAbandon) = 0x29 ∧ resultCode .abandoned = 0x30) ∧
  (phaseCode .unidentified = 0 ∧ phaseCode .reset = 1 ∧ phaseCode .bound = 2) ∧
  (setupCode .ok = 0 ∧ setupCode (.failed (.resource .channel)) = 1 ∧ setupCode (.failed (.resource .resetLine)) = 2 ∧
    setupCode (.failed (.resource .readyLine)) = 3 ∧ setupCode (.failed (.resource .delaySource)) = 4 ∧
    setupCode (.failed .slotOutOfRange) = 5) ∧
  (resetOutCode .unknown = 0 ∧ resetOutCode .low = 1 ∧ resetOutCode .high = 2) ∧
  (∀ r r' : Result, resultCode r = resultCode r' →
    r = r' ∨ ∃ f f', r = .setupError f ∧ r' = .setupError f') ∧
  (∀ p p' : Phase, phaseCode p = phaseCode p' → p = p') ∧ (∀ c c' : Setup, setupCode c = setupCode c' → c = c') ∧
  (∀ o o' : ResetOut, resetOutCode o = resetOutCode o' → o = o') ∧
  (∀ s : State, s.readCtrl 0 = some (.slot s.slot) ∧ s.readCtrl 1 = some (.phase (phaseCode s.phase)) ∧
    s.readCtrl 2 = some (.ident s.ident.valid s.ident.id) ∧ s.readCtrl 3 = some (.setup (setupCode s.setup)) ∧
    s.readCtrl 4 = some (.taint s.taint) ∧ s.readCtrl 5 = some (.resetOut (resetOutCode s.resetOut)) ∧
    s.readCtrl 6 = some (.status (resultCode s.status)) ∧ s.readCtrl 7 = some (.seq s.seq.op s.seq.step s.seq.frame) ∧
    (∀ n, 8 ≤ n → s.readCtrl n = none) ∧ s.readRes = s.res) ∧
  (∀ (s : State) (k : Nat), s.readBuf .tx k = none ∧
    (s.seq.op ≠ none ∨ (s.status ≠ .ok ∧ s.status ≠ .identityMismatch) → s.readBuf .rx k = none)) ∧
  (∀ (s u : State) (rx : List Byte), u.rxbuf = (receive rx.length rx s).rxbuf → u.seq.op = none →
    (u.status = .ok ∨ u.status = .identityMismatch) → ∀ k, u.readBuf .rx k = rx[k]?)

/-- Decoding follows the rows of the opcode table (R97, with the spec's decision D19): what a word decodes to is an instruction whose row
the word matches, a request or a message of legal length that matches a row decodes to an instruction of that row, and a message of legal
length that matches no row has a reserved direction or message type. -/
def Obligations.DecodingFollowsTheTable : Prop :=
  (∀ (w : PortWord) (i : Instr), decode w = .ok i → (tableRow i).fits w = true) ∧
  (∀ (cmd : Byte) (ops : Operands) (j : Instr), (tableRow j).fits (.request cmd ops) = true →
    ∃ i, decode (.request cmd ops) = .ok i ∧ tableRow i = tableRow j) ∧
  (∀ (bytes : List Byte) (j : Instr), 7 ≤ bytes.length → bytes.length ≤ 256 → (tableRow j).fits (.wire bytes) = true →
    ∃ i, decode (.wire bytes) = .ok i ∧ tableRow i = tableRow j) ∧
  (∀ bytes : List Byte, 7 ≤ bytes.length → bytes.length ≤ 256 → (∀ j, (tableRow j).fits (.wire bytes) = false) →
    decode (.wire bytes) = .error (.reservedDirection (bytes.getD 2 0)) ∨
      decode (.wire bytes) = .error (.reservedMessageType (bytes.getD 4 0)))
end

