-- ==== Sys2Proof/Laws/Memory.lean ====
section
/-! SUPPORT. The laws of the frame buffers: a read after a write, and every operation keeps the canonical form. -/

namespace Sys2Proof.Machine

theorem cellAt_insertCell (k j : Nat) (v : Byte) (c : List Host.Cell) :
    cellAt (insertCell k v c) j = if k = j then some v else cellAt c j := by
  induction c with
  | nil => simp [insertCell, cellAt]
  | cons p rest ih =>
    obtain ⟨i, w⟩ := p
    by_cases h1 : k < i
    · simp [insertCell, h1, cellAt]
    · by_cases h2 : k = i
      · subst h2
        by_cases h3 : k = j <;> simp [insertCell, cellAt, h3]
      · rw [insertCell, if_neg h1, if_neg h2, cellAt, cellAt, ih]
        by_cases h3 : i = j
        · rw [if_pos h3, if_pos h3, if_neg fun h => h2 (h.trans h3.symm)]
        · rw [if_neg h3, if_neg h3]

/-- A byte reads as it was last written, and a write leaves every other byte alone. -/
theorem Buf.read_write (b : Buf) (k j : Nat) (v : Byte) :
    (b.write k v).read j = if k = j then v else b.read j := by
  by_cases h : k = j <;> simp [Buf.read, Buf.write, cellAt_insertCell, h]

@[simp] theorem Buf.read_write_same (b : Buf) (k : Nat) (v : Byte) : (b.write k v).read k = v := by
  simp [Buf.read_write]

@[simp] theorem Buf.read_write_ne (b : Buf) {k j : Nat} (v : Byte) (h : k ≠ j) : (b.write k v).read j = b.read j := by
  simp [Buf.read_write, h]

/-- Consecutive bytes read as they were written, every other byte as before. -/
theorem Buf.read_writeBytes (b : Buf) (off j : Nat) (bytes : List Byte) :
    (b.writeBytes off bytes).read j =
      if off ≤ j ∧ j < off + bytes.length then bytes.getD (j - off) 0 else b.read j := by
  induction bytes generalizing b off with
  | nil =>
    simp [Buf.writeBytes]
  | cons v rest ih =>
    rw [Buf.writeBytes, ih, Buf.read_write]
    by_cases h1 : off = j
    · subst h1; simp
    · by_cases h2 : off + 1 ≤ j ∧ j < off + 1 + rest.length
      · have h3 : off ≤ j ∧ j < off + (v :: rest).length := by simp; omega
        have h4 : j - off = (j - (off + 1)) + 1 := by omega
        rw [if_pos h2, if_pos h3, h4, List.getD_cons_succ]
      · have h3 : ¬(off ≤ j ∧ j < off + (v :: rest).length) := by simp at h2 ⊢; omega
        rw [if_neg h2, if_neg h3, if_neg h1]

theorem cellAt_cellsFrom (off k : Nat) (bytes : List Byte) :
    cellAt (cellsFrom off bytes) k = if off ≤ k then bytes[k - off]? else none := by
  induction bytes generalizing off with
  | nil => simp [cellsFrom, cellAt]
  | cons b rest ih =>
    rw [cellsFrom, cellAt, ih]
    by_cases h1 : off = k
    · subst h1; simp
    · by_cases h2 : off + 1 ≤ k
      · have h3 : off ≤ k := by omega
        have h4 : k - off = (k - (off + 1)) + 1 := by omega
        rw [if_neg h1, if_pos h2, if_pos h3, h4, List.getElem?_cons_succ]
      · have h3 : ¬off ≤ k := by omega
        rw [if_neg h1, if_neg h2, if_neg h3]

/-- A buffer made of given bytes reads as they are. -/
theorem Buf.read_ofBytes (gen : Nat) (bytes : List Byte) (k : Nat) (h : k < bytes.length) :
    (Buf.ofBytes gen bytes).read k = bytes.getD k 0 := by
  simp [Buf.ofBytes, Buf.read, cellAt_cellsFrom, List.getElem?_eq_getElem h]

/-- Past the given bytes it is unspecified. -/
theorem Buf.read_ofBytes_past (gen : Nat) (bytes : List Byte) (k : Nat) (h : bytes.length ≤ k) :
    (Buf.ofBytes gen bytes).read k = Config.freeByte gen k := by
  simp [Buf.ofBytes, Buf.read, cellAt_cellsFrom, List.getElem?_eq_none h]

@[simp] theorem Buf.read_unspecified (gen k : Nat) : (Buf.unspecified gen).read k = Config.freeByte gen k := rfl

/-! ### The canonical form -/

theorem cellsWf_insertCell {lo cap k : Nat} {v : Byte} {c : List Host.Cell} (h : cellsWf lo cap c = true) (h1 : lo ≤ k)
    (h2 : k < cap) : cellsWf lo cap (insertCell k v c) = true := by
  induction c generalizing lo with
  | nil => simp [insertCell, cellsWf, h1, h2]
  | cons p rest ih =>
    obtain ⟨i, w⟩ := p
    simp only [cellsWf, Bool.and_eq_true, decide_eq_true_eq] at h
    obtain ⟨⟨h3, h4⟩, h5⟩ := h
    by_cases h6 : k < i
    · simp [insertCell, h6, cellsWf, h1, h2, h4, h5]
    · by_cases h7 : k = i
      · subst h7
        simp [insertCell, cellsWf, h1, h2, h5]
      · simp [insertCell, h6, h7, cellsWf, h3, h4, ih h5 (by omega)]

theorem Buf.wf_write {cap k : Nat} {b : Buf} (v : Byte) (h : b.wf cap = true) (hk : k < cap) :
    (b.write k v).wf cap = true := cellsWf_insertCell h (Nat.zero_le k) hk

theorem Buf.wf_writeBytes {cap off : Nat} {b : Buf} {bytes : List Byte} (h : b.wf cap = true)
    (hk : off + bytes.length ≤ cap) : (b.writeBytes off bytes).wf cap = true := by
  induction bytes generalizing b off with
  | nil => simpa [Buf.writeBytes] using h
  | cons v rest ih =>
    simp only [List.length_cons] at hk
    exact ih (Buf.wf_write v h (by omega)) (by omega)

theorem cellsWf_cellsFrom (off cap : Nat) (bytes : List Byte) (h : off + bytes.length ≤ cap) :
    cellsWf off cap (cellsFrom off bytes) = true := by
  induction bytes generalizing off with
  | nil => rfl
  | cons b rest ih =>
    simp only [List.length_cons] at h
    simp [cellsFrom, cellsWf, show off < cap by omega, ih (off + 1) (by omega)]

theorem Buf.wf_ofBytes {gen cap : Nat} {bytes : List Byte} (h : bytes.length ≤ cap) :
    (Buf.ofBytes gen bytes).wf cap = true := cellsWf_cellsFrom 0 cap bytes (by omega)

@[simp] theorem Buf.wf_unspecified (gen cap : Nat) : (Buf.unspecified gen).wf cap = true := rfl

/-- The buffers of an instance just constructed are in canonical form. -/
theorem reset_buffers_wf : State.reset.txbuf.wf 256 = true ∧ State.reset.rxbuf.wf 256 = true := ⟨rfl, rfl⟩

end Sys2Proof.Machine
end

