-- ==== Sys2Proof/Laws/Codec.lean ====
section
/-! SUPPORT. The laws of slices, of the checksum, and of the frames the MCC builds. -/

namespace Sys2Proof.Machine

/-! ### Slices and sums -/

@[simp] theorem length_slice (v : View) (i j : Nat) : (slice v i j).length = j - i := by simp [slice]

theorem slice_congr {v w : View} {i j : Nat} (h : ∀ k, i ≤ k → k < j → v k = w k) : slice v i j = slice w i j := by
  apply List.map_congr_left
  intro k hk
  rw [List.mem_range'_1] at hk
  exact h k hk.1 (by omega)

theorem slice_split (v : View) {i j k : Nat} (h1 : i ≤ j) (h2 : j ≤ k) : slice v i k = slice v i j ++ slice v j k := by
  unfold slice
  rw [← List.map_append, show j = i + 1 * (j - i) by omega, show i + 1 * (j - i) - i = j - i by omega,
    List.range'_append]
  congr 2
  omega

theorem slice_succ (v : View) (i : Nat) : slice v i (i + 1) = [v i] := by
  simp [slice, show i + 1 - i = 1 by omega]

/-- A slice that reads a list is that list. -/
theorem slice_eq_list {v : View} {i j : Nat} {bytes : List Byte} (hl : bytes.length = j - i)
    (h : ∀ k, k < bytes.length → v (i + k) = bytes.getD k 0) : slice v i j = bytes := by
  apply List.ext_getElem
  · simp [hl]
  · intro k h1 h2
    have := h k h2
    rw [List.getD_eq_getElem _ _ h2] at this
    simp [slice, this]

theorem slice_getD (v : View) (i j k : Nat) (h : i + k < j) : (slice v i j).getD k 0 = v (i + k) := by
  have h1 : k < (slice v i j).length := by simp; omega
  rw [List.getD_eq_getElem _ _ h1]
  simp [slice]

@[simp] theorem sum8_nil : sum8 [] = 0 := rfl
@[simp] theorem sum8_cons (b : Byte) (rest : List Byte) : sum8 (b :: rest) = b + sum8 rest := rfl

@[simp] theorem sum8_append (a b : List Byte) : sum8 (a ++ b) = sum8 a + sum8 b := by
  induction a with
  | nil => simp
  | cons x rest ih => simp [ih, BitVec.add_assoc]

/-- `sum8` is the sum of the bytes' values, modulo 256 (R9). -/
theorem sum8_eq_ofNat_sum (l : List Byte) : sum8 l = BitVec.ofNat 8 (l.map BitVec.toNat).sum := by
  induction l with
  | nil => rfl
  | cons b rest ih => rw [sum8_cons, ih, List.map_cons, List.sum_cons, BitVec.ofNat_add, BitVec.ofNat_toNat, BitVec.setWidth_eq]

/-- The checksum as a sum over the offsets 0 to L-2 (R110). -/
theorem computeChecksum_eq_ofNat_sum (v : View) (L : Nat) :
    computeChecksum v L = BitVec.ofNat 8 ((List.range (L - 1)).map fun k => (v k).toNat).sum := by
  rw [computeChecksum, sum8_eq_ofNat_sum, slice, offChecksum, List.map_map, Nat.sub_zero, ← List.range_eq_range']
  rfl

theorem computeChecksum_congr {v w : View} {L : Nat} (h : ∀ k, k < L - 1 → v k = w k) :
    computeChecksum v L = computeChecksum w L := by
  unfold computeChecksum
  rw [slice_congr fun k _ hk => h k hk]

/-! ### Messages of the wire -/

@[simp] theorem offChecksum_eq (L : Nat) : offChecksum L = L - 1 := rfl

/-- The bytes of a wire frame, in wire order (R80). -/
theorem frameBytes_eq (dir mt : Byte) (f : FrameArgs) :
    frameBytes dir mt f = f.slot :: f.length :: dir :: f.mid :: mt :: f.midx :: f.tail := rfl

/-- The bytes of a probe, in wire order (R89). -/
theorem probeBytes_eq (p : ProbeArgs) : probeBytes p = probeCmd :: p.length :: probeCmd :: p.tail := rfl

/-- What the decoder reads from a message whose first six bytes are given. -/
theorem decodeWire_cons (b0 b1 b2 b3 b4 b5 : Byte) (tail : List Byte) :
    decodeWire (b0 :: b1 :: b2 :: b3 :: b4 :: b5 :: tail) =
      if tail.length + 6 < minLen then .error .shortFrame
      else if maxLen < tail.length + 6 then .error .longFrame
      else if b0 = probeCmd ∧ b2 = probeCmd then .ok (.probe ⟨b1, b3 :: b4 :: b5 :: tail⟩)
      else decodeFrame b2 b4 ⟨b0, b1, b3, b5, tail⟩ := rfl

/-- A message of fewer than 7 bytes is none (R8). -/
theorem decodeWire_short {bytes : List Byte} (h : bytes.length < minLen) : decodeWire bytes = .error .shortFrame := if_pos h

/-! ### Frames -/

theorem writeHeaderBytes_read (b : Buf) (slot : Byte) (L : Nat) (dir mid mt midx : Byte) (k : Nat) :
    (writeHeaderBytes b slot L dir mid mt midx).read k =
      if k < 6 then [slot, lengthByte L, dir, mid, mt, midx].getD k 0 else b.read k := by
  by_cases h : k < 6
  · interval_cases k <;>
      simp [writeHeaderBytes, offSlot, offLength, offDir, offMid, offMt, offMidx]
  · simp only [writeHeaderBytes, Buf.read_write, offSlot, offLength, offDir, offMid, offMt, offMidx, h, if_false]
    rw [if_neg (by omega), if_neg (by omega), if_neg (by omega), if_neg (by omega), if_neg (by omega), if_neg (by omega)]

/-- What stands in a buffer after `write_header` (R111): the six header bytes, the checksum over what was there, everything else as
before. -/
theorem writeHeader_read (b : Buf) (slot : Byte) (L : Nat) (dir mid mt midx : Byte) (hL : 7 ≤ L) (k : Nat) :
    (writeHeader b slot L dir mid mt midx).read k =
      if k < 6 then [slot, lengthByte L, dir, mid, mt, midx].getD k 0
      else if k = L - 1 then sum8 ([slot, lengthByte L, dir, mid, mt, midx] ++ slice b.read 6 (L - 1))
      else b.read k := by
  have hsum : computeChecksum (writeHeaderBytes b slot L dir mid mt midx).read L =
      sum8 ([slot, lengthByte L, dir, mid, mt, midx] ++ slice b.read 6 (L - 1)) := by
    unfold computeChecksum
    rw [slice_split _ (show 0 ≤ 6 by omega) (show 6 ≤ L - 1 by omega)]
    congr 2
    · refine slice_eq_list rfl fun k hk => ?_
      rw [Nat.zero_add, writeHeaderBytes_read, if_pos (by simpa using hk)]
    · exact slice_congr fun k hk _ => by rw [writeHeaderBytes_read, if_neg (by omega)]
  simp only [writeHeader, Buf.read_write, hsum, writeHeaderBytes_read, offChecksum]
  by_cases h1 : k < 6
  · rw [if_neg (by omega), if_pos h1, if_pos h1]
  · by_cases h2 : k = L - 1
    · rw [if_pos h2.symm, if_neg h1, if_pos h2]
    · rw [if_neg (fun h => h2 h.symm), if_neg h1, if_neg h1, if_neg h2]

theorem length_frameOut (slot : Byte) (L : Nat) (dir mid mt midx : Byte) (payload : List Byte) :
    (frameOut slot L dir mid mt midx payload).length = payload.length + 7 := by simp [frameOut]

/-- The assembled frame holds the bytes of R80. -/
theorem frameImage_slice (gen : Nat) (slot : Byte) (L : Nat) (dir mid mt midx : Byte) (payload : List Byte) (hL : 7 ≤ L)
    (hp : payload.length = L - 7) :
    slice (frameImage gen slot L dir mid mt midx payload).read 0 L = frameOut slot L dir mid mt midx payload := by
  have hpay : slice ((Buf.unspecified gen).writeBytes offPayload payload).read 6 (L - 1) = payload := by
    refine slice_eq_list (by omega) fun k hk => ?_
    rw [Buf.read_writeBytes, offPayload, if_pos (by omega), show 6 + k - 6 = k by omega]
  refine slice_eq_list (by rw [length_frameOut]; omega) fun k hk => ?_
  rw [length_frameOut] at hk
  rw [Nat.zero_add, frameImage, writeHeader_read _ _ _ _ _ _ _ hL, hpay]
  by_cases h1 : k < 6
  · rw [if_pos h1]
    interval_cases k <;> rfl
  · rw [if_neg h1]
    by_cases h2 : k = L - 1
    · rw [if_pos h2]
      have : k = ([slot, BitVec.ofNat 8 (L - 1), dir, mid, mt, midx] ++ payload).length := by simp; omega
      simp only [frameOut, lengthByte, this, List.getD_append_right _ _ _ _ (Nat.le_refl _)]
      simp
    · rw [if_neg h2, Buf.read_writeBytes, offPayload, if_pos (by omega)]
      simp only [frameOut]
      rw [List.getD_append _ _ _ _ (by simp; omega), List.getD_append_right _ _ _ _ (by simp; omega)]
      simp

theorem frameImage_wf (gen : Nat) (slot : Byte) (L cap : Nat) (dir mid mt midx : Byte) (payload : List Byte) (hL : 7 ≤ L)
    (hc : L ≤ cap) (hp : payload.length = L - 7) :
    (frameImage gen slot L dir mid mt midx payload).wf cap = true := by
  simp only [frameImage, writeHeader, writeHeaderBytes, offSlot, offLength, offDir, offMid, offMt, offMidx, offPayload, offChecksum]
  repeat first | exact Buf.wf_writeBytes (Buf.wf_unspecified _ _) (by omega) | refine Buf.wf_write _ ?_ (by omega)

theorem length_probeOut (P : Nat) (c : Bool) (hP : 7 ≤ P) : (probeOut P c).length = P := by
  simp [probeOut]; omega

theorem probeHead_slice (gen P : Nat) (hP : 7 ≤ P) :
    slice (probeHead gen P).read 0 (P - 1) = [probeCmd, lengthByte P, probeCmd] ++ List.replicate (P - 4) 0 := by
  refine slice_eq_list (by simp; omega) fun k hk => ?_
  simp only [probeHead, offProbeCmd0, offProbeLength, offProbeCmd2, offProbeFill, offChecksum, Nat.zero_add]
  by_cases h : k < 3
  · interval_cases k <;> simp
  · rw [Buf.read_write_ne _ _ (by omega), Buf.read_write_ne _ _ (by omega), Buf.read_write_ne _ _ (by omega), Buf.read_writeBytes,
      if_pos (by simp at hk ⊢; omega), List.getD_append_right _ _ _ _ (by simp; omega)]
    rfl

/-- The assembled probe holds the bytes of R89. -/
theorem probeImage_slice (gen P : Nat) (c : Bool) (hP : 7 ≤ P) :
    slice (probeImage gen P c).read 0 P = probeOut P c := by
  obtain ⟨n, rfl⟩ : ∃ n, P = n + 1 := ⟨P - 1, by omega⟩
  rw [slice_split _ (Nat.zero_le n) (Nat.le_succ n), slice_succ]
  simp only [probeImage, offChecksum, Nat.add_sub_cancel, Buf.read_write_same]
  rw [slice_congr (w := (probeHead gen (n + 1)).read) fun k _ hk => Buf.read_write_ne _ _ (by omega)]
  have h := probeHead_slice gen (n + 1) hP
  rw [Nat.add_sub_cancel] at h
  rw [computeChecksum, offChecksum, Nat.add_sub_cancel, h]
  rfl

theorem probeImage_wf (gen P cap : Nat) (c : Bool) (hP : 7 ≤ P) (hc : P ≤ cap) : (probeImage gen P c).wf cap = true := by
  simp only [probeImage, probeHead, offProbeCmd0, offProbeLength, offProbeCmd2, offProbeFill, offChecksum]
  repeat first | exact Buf.wf_writeBytes (Buf.wf_unspecified _ _) (by simp; omega) | refine Buf.wf_write _ ?_ (by omega)

/-! ### Received bytes -/

@[simp] theorem length_received (tag n : Nat) (given : List Byte) : (received tag n given).length = n := by simp [received]

/-- An answer of the transfer's length is received as it is. -/
theorem received_exact (tag : Nat) (given : List Byte) : received tag given.length given = given := by
  apply List.ext_getElem (by simp)
  intro k h1 h2
  simp [received, h2]

/-- A received byte that the answer gives is that byte. -/
theorem received_getD (tag n : Nat) (given : List Byte) (k : Nat) (h1 : k < n) (h2 : k < given.length) :
    (received tag n given).getD k 0 = given.getD k 0 := by
  rw [List.getD_eq_getElem _ _ (by simpa using h1)]
  simp [received, h2]

/-! ### The checks read only the frame -/

theorem cksOk_congr {v w : View} {L : Nat} (hL : 1 ≤ L) (h : ∀ k, k < L → v k = w k) : cksOk v L = cksOk w L := by
  rw [cksOk, cksOk, h (L - 1) (by omega), computeChecksum_congr fun k hk => h k (by omega)]

theorem responseError_congr {v w : View} {L : Nat} (hL : 7 ≤ L) (h : ∀ k, k < L → v k = w k) :
    responseError v L = responseError w L := by
  have h1 : lenOk v L = lenOk w L := by rw [lenOk, lenOk, offLength, h 1 (by omega)]
  have h2 : dirOk v = dirOk w := by rw [dirOk, dirOk, offDir, h 2 (by omega)]
  rw [responseError, responseError, cksOk_congr (by omega) h, h1, h2]

theorem checkEcho_congr {v w : View} {mid mt midx : Byte} (h : ∀ k, k < 7 → v k = w k) :
    checkEcho v mid mt midx = checkEcho w mid mt midx := by
  simp only [checkEcho, offDir, offMid, offMt, offMidx, h 2 (by omega), h 3 (by omega), h 4 (by omega), h 5 (by omega)]

theorem probeError_congr {c : Bool} {v w : View} {P : Nat} {id : Ident} (hP : 9 ≤ P) (h : ∀ k, k < P → v k = w k) :
    probeError c v P id = probeError c w P id := by
  have h1 : identOf v = identOf w := by
    rw [identOf, identOf, idOff, h 6 (by omega), h (6 + 1) (by omega), h (6 + 2) (by omega)]
  rw [probeError, probeError, cksOk_congr (by omega) h, h1]

/-- The response passes exactly when `validate_response` holds (R112, R136). -/
theorem responseError_none (v : View) (L : Nat) : responseError v L = none ↔ validateResponse v L = true := by
  simp only [responseError, validateResponse]
  cases cksOk v L <;> cases lenOk v L <;> cases dirOk v <;> decide

/-- What a response that does not pass is rejected as (R204, R205, R212). -/
theorem rejectedAs_of_responseError {rx : List Byte} {L : Nat} {e : Result} (h : responseError (viewOf rx) L = some e) :
    RejectedAs rx L e := by
  have h1 : cksOk (viewOf rx) L = true ↔ viewOf rx (L - 1) = sum8 (slice (viewOf rx) 0 (L - 1)) := beq_iff_eq
  have h2 : lenOk (viewOf rx) L = true ↔ viewOf rx 1 = BitVec.ofNat 8 (L - 1) := beq_iff_eq
  have h3 : dirOk (viewOf rx) = true ↔ viewOf rx 2 = 2 := beq_iff_eq
  rw [responseError] at h
  unfold RejectedAs
  rw [← h1, ← h2, ne_eq, ← h3]
  revert h
  cases cksOk (viewOf rx) L <;> cases lenOk (viewOf rx) L <;> cases dirOk (viewOf rx) <;> simp [eq_comm]

/-! ### The choices written out -/

/-- The buffer `OP_BUFSEL` chooses (R29). -/
theorem bufOf_eq (s : State) (buf : BufSel) : s.bufOf buf = if buf = .tx then s.txbuf else s.rxbuf := by cases buf <;> rfl

/-- The register value of a level driven (R26, R138). -/
theorem ofLevel_eq (level : Level) : ResetOut.ofLevel level = if level = .low then .low else .high := by cases level <;> rfl

/-- The gate of a configuration frame (R161). -/
theorem cfgGated_eq (p : Params) : cfgGated p = cfgGate p := by unfold cfgGated cfgGate; cases p.cfgMode <;> rfl

end Sys2Proof.Machine
end

