-- ==== Sys2Proof/Laws/State.lean ====
section
/-! SUPPORT. One lemma per field per update of State, so that no later proof unfolds a record update. -/

namespace Sys2Proof.Machine

/-! ### emit -/

@[simp] theorem emit_params (e : Event) (s : State) : (emit e s).params = s.params := rfl
@[simp] theorem emit_slot (e : Event) (s : State) : (emit e s).slot = s.slot := rfl
@[simp] theorem emit_phase (e : Event) (s : State) : (emit e s).phase = s.phase := rfl
@[simp] theorem emit_ident (e : Event) (s : State) : (emit e s).ident = s.ident := rfl
@[simp] theorem emit_setup (e : Event) (s : State) : (emit e s).setup = s.setup := rfl
@[simp] theorem emit_taint (e : Event) (s : State) : (emit e s).taint = s.taint := rfl
@[simp] theorem emit_resetOut (e : Event) (s : State) : (emit e s).resetOut = s.resetOut := rfl
@[simp] theorem emit_status (e : Event) (s : State) : (emit e s).status = s.status := rfl
@[simp] theorem emit_seq (e : Event) (s : State) : (emit e s).seq = s.seq := rfl
@[simp] theorem emit_operands (e : Event) (s : State) : (emit e s).operands = s.operands := rfl
@[simp] theorem emit_res (e : Event) (s : State) : (emit e s).res = s.res := rfl
@[simp] theorem emit_txbuf (e : Event) (s : State) : (emit e s).txbuf = s.txbuf := rfl
@[simp] theorem emit_rxbuf (e : Event) (s : State) : (emit e s).rxbuf = s.rxbuf := rfl
@[simp] theorem emit_trace (e : Event) (s : State) : (emit e s).trace = s.trace ++ [e] := rfl
@[simp] theorem emit_env (e : Event) (s : State) : (emit e s).env = s.env := rfl
@[simp] theorem emit_inbox (e : Event) (s : State) : (emit e s).inbox = s.inbox := rfl
@[simp] theorem emit_fresh (e : Event) (s : State) : (emit e s).fresh = s.fresh := rfl

/-! ### delayFor -/

@[simp] theorem delayFor_params (d : Duration) (s : State) : (delayFor d s).params = s.params := rfl
@[simp] theorem delayFor_slot (d : Duration) (s : State) : (delayFor d s).slot = s.slot := rfl
@[simp] theorem delayFor_phase (d : Duration) (s : State) : (delayFor d s).phase = s.phase := rfl
@[simp] theorem delayFor_ident (d : Duration) (s : State) : (delayFor d s).ident = s.ident := rfl
@[simp] theorem delayFor_setup (d : Duration) (s : State) : (delayFor d s).setup = s.setup := rfl
@[simp] theorem delayFor_taint (d : Duration) (s : State) : (delayFor d s).taint = s.taint := rfl
@[simp] theorem delayFor_resetOut (d : Duration) (s : State) : (delayFor d s).resetOut = s.resetOut := rfl
@[simp] theorem delayFor_status (d : Duration) (s : State) : (delayFor d s).status = s.status := rfl
@[simp] theorem delayFor_seq (d : Duration) (s : State) : (delayFor d s).seq = s.seq := rfl
@[simp] theorem delayFor_operands (d : Duration) (s : State) : (delayFor d s).operands = s.operands := rfl
@[simp] theorem delayFor_res (d : Duration) (s : State) : (delayFor d s).res = s.res := rfl
@[simp] theorem delayFor_txbuf (d : Duration) (s : State) : (delayFor d s).txbuf = s.txbuf := rfl
@[simp] theorem delayFor_rxbuf (d : Duration) (s : State) : (delayFor d s).rxbuf = s.rxbuf := rfl
@[simp] theorem delayFor_trace (d : Duration) (s : State) : (delayFor d s).trace = s.trace ++ [.delay d] := rfl
@[simp] theorem delayFor_env (d : Duration) (s : State) : (delayFor d s).env = s.env := rfl
@[simp] theorem delayFor_inbox (d : Duration) (s : State) : (delayFor d s).inbox = s.inbox := rfl
@[simp] theorem delayFor_fresh (d : Duration) (s : State) : (delayFor d s).fresh = s.fresh := rfl

/-! ### seqTo -/

@[simp] theorem seqTo_params (q : Seq) (s : State) : (seqTo q s).params = s.params := rfl
@[simp] theorem seqTo_slot (q : Seq) (s : State) : (seqTo q s).slot = s.slot := rfl
@[simp] theorem seqTo_phase (q : Seq) (s : State) : (seqTo q s).phase = s.phase := rfl
@[simp] theorem seqTo_ident (q : Seq) (s : State) : (seqTo q s).ident = s.ident := rfl
@[simp] theorem seqTo_setup (q : Seq) (s : State) : (seqTo q s).setup = s.setup := rfl
@[simp] theorem seqTo_taint (q : Seq) (s : State) : (seqTo q s).taint = s.taint := rfl
@[simp] theorem seqTo_resetOut (q : Seq) (s : State) : (seqTo q s).resetOut = s.resetOut := rfl
@[simp] theorem seqTo_status (q : Seq) (s : State) : (seqTo q s).status = s.status := rfl
@[simp] theorem seqTo_seq (q : Seq) (s : State) : (seqTo q s).seq = q := rfl
@[simp] theorem seqTo_operands (q : Seq) (s : State) : (seqTo q s).operands = s.operands := rfl
@[simp] theorem seqTo_res (q : Seq) (s : State) : (seqTo q s).res = s.res := rfl
@[simp] theorem seqTo_txbuf (q : Seq) (s : State) : (seqTo q s).txbuf = s.txbuf := rfl
@[simp] theorem seqTo_rxbuf (q : Seq) (s : State) : (seqTo q s).rxbuf = s.rxbuf := rfl
@[simp] theorem seqTo_trace (q : Seq) (s : State) : (seqTo q s).trace = s.trace := rfl
@[simp] theorem seqTo_env (q : Seq) (s : State) : (seqTo q s).env = s.env := rfl
@[simp] theorem seqTo_inbox (q : Seq) (s : State) : (seqTo q s).inbox = s.inbox := rfl
@[simp] theorem seqTo_fresh (q : Seq) (s : State) : (seqTo q s).fresh = s.fresh := rfl

/-! ### scrubRx -/

@[simp] theorem scrubRx_params (s : State) : (scrubRx s).params = s.params := rfl
@[simp] theorem scrubRx_slot (s : State) : (scrubRx s).slot = s.slot := rfl
@[simp] theorem scrubRx_phase (s : State) : (scrubRx s).phase = s.phase := rfl
@[simp] theorem scrubRx_ident (s : State) : (scrubRx s).ident = s.ident := rfl
@[simp] theorem scrubRx_setup (s : State) : (scrubRx s).setup = s.setup := rfl
@[simp] theorem scrubRx_taint (s : State) : (scrubRx s).taint = s.taint := rfl
@[simp] theorem scrubRx_resetOut (s : State) : (scrubRx s).resetOut = s.resetOut := rfl
@[simp] theorem scrubRx_status (s : State) : (scrubRx s).status = s.status := rfl
@[simp] theorem scrubRx_seq (s : State) : (scrubRx s).seq = s.seq := rfl
@[simp] theorem scrubRx_operands (s : State) : (scrubRx s).operands = s.operands := rfl
@[simp] theorem scrubRx_res (s : State) : (scrubRx s).res = s.res := rfl
@[simp] theorem scrubRx_txbuf (s : State) : (scrubRx s).txbuf = s.txbuf := rfl
@[simp] theorem scrubRx_rxbuf (s : State) : (scrubRx s).rxbuf = Buf.unspecified s.fresh := rfl
@[simp] theorem scrubRx_trace (s : State) : (scrubRx s).trace = s.trace := rfl
@[simp] theorem scrubRx_env (s : State) : (scrubRx s).env = s.env := rfl
@[simp] theorem scrubRx_inbox (s : State) : (scrubRx s).inbox = s.inbox := rfl
@[simp] theorem scrubRx_fresh (s : State) : (scrubRx s).fresh = s.fresh + 1 := rfl

/-! ### finishOk -/

@[simp] theorem finishOk_params (op : Op) (r : ResVal) (s : State) : (finishOk op r s).params = s.params := rfl
@[simp] theorem finishOk_slot (op : Op) (r : ResVal) (s : State) : (finishOk op r s).slot = s.slot := rfl
@[simp] theorem finishOk_phase (op : Op) (r : ResVal) (s : State) : (finishOk op r s).phase = s.phase := rfl
@[simp] theorem finishOk_ident (op : Op) (r : ResVal) (s : State) : (finishOk op r s).ident = s.ident := rfl
@[simp] theorem finishOk_setup (op : Op) (r : ResVal) (s : State) : (finishOk op r s).setup = s.setup := rfl
@[simp] theorem finishOk_taint (op : Op) (r : ResVal) (s : State) : (finishOk op r s).taint = s.taint := rfl
@[simp] theorem finishOk_resetOut (op : Op) (r : ResVal) (s : State) : (finishOk op r s).resetOut = s.resetOut := rfl
@[simp] theorem finishOk_status (op : Op) (r : ResVal) (s : State) : (finishOk op r s).status = .ok := rfl
@[simp] theorem finishOk_seq (op : Op) (r : ResVal) (s : State) : (finishOk op r s).seq = Seq.idle := rfl
@[simp] theorem finishOk_operands (op : Op) (r : ResVal) (s : State) : (finishOk op r s).operands = s.operands := rfl
@[simp] theorem finishOk_res (op : Op) (r : ResVal) (s : State) : (finishOk op r s).res = r := rfl
@[simp] theorem finishOk_txbuf (op : Op) (r : ResVal) (s : State) : (finishOk op r s).txbuf = s.txbuf := rfl
@[simp] theorem finishOk_rxbuf (op : Op) (r : ResVal) (s : State) : (finishOk op r s).rxbuf = s.rxbuf := rfl
@[simp] theorem finishOk_trace (op : Op) (r : ResVal) (s : State) : (finishOk op r s).trace = s.trace ++ [.result (.op op) .ok] := rfl
@[simp] theorem finishOk_env (op : Op) (r : ResVal) (s : State) : (finishOk op r s).env = s.env := rfl
@[simp] theorem finishOk_inbox (op : Op) (r : ResVal) (s : State) : (finishOk op r s).inbox = s.inbox := rfl
@[simp] theorem finishOk_fresh (op : Op) (r : ResVal) (s : State) : (finishOk op r s).fresh = s.fresh := rfl

/-! ### raise -/

@[simp] theorem raise_params (op : Op) (e : Result) (s : State) : (raise op e s).params = s.params := rfl
@[simp] theorem raise_slot (op : Op) (e : Result) (s : State) : (raise op e s).slot = s.slot := rfl
@[simp] theorem raise_phase (op : Op) (e : Result) (s : State) : (raise op e s).phase = phaseAfterError op s.phase := rfl
@[simp] theorem raise_ident (op : Op) (e : Result) (s : State) : (raise op e s).ident = s.ident := rfl
@[simp] theorem raise_setup (op : Op) (e : Result) (s : State) : (raise op e s).setup = s.setup := rfl
@[simp] theorem raise_taint (op : Op) (e : Result) (s : State) : (raise op e s).taint = s.taint := rfl
@[simp] theorem raise_resetOut (op : Op) (e : Result) (s : State) : (raise op e s).resetOut = s.resetOut := rfl
@[simp] theorem raise_status (op : Op) (e : Result) (s : State) : (raise op e s).status = e := rfl
@[simp] theorem raise_seq (op : Op) (e : Result) (s : State) : (raise op e s).seq = Seq.idle := rfl
@[simp] theorem raise_operands (op : Op) (e : Result) (s : State) : (raise op e s).operands = s.operands := rfl
@[simp] theorem raise_res (op : Op) (e : Result) (s : State) : (raise op e s).res = Config.freeRes s.fresh := rfl
@[simp] theorem raise_txbuf (op : Op) (e : Result) (s : State) : (raise op e s).txbuf = s.txbuf := rfl
@[simp] theorem raise_rxbuf (op : Op) (e : Result) (s : State) : (raise op e s).rxbuf = s.rxbuf := rfl
@[simp] theorem raise_trace (op : Op) (e : Result) (s : State) : (raise op e s).trace = s.trace ++ [.result (.op op) e] := rfl
@[simp] theorem raise_env (op : Op) (e : Result) (s : State) : (raise op e s).env = s.env := rfl
@[simp] theorem raise_inbox (op : Op) (e : Result) (s : State) : (raise op e s).inbox = s.inbox := rfl
@[simp] theorem raise_fresh (op : Op) (e : Result) (s : State) : (raise op e s).fresh = s.fresh + 1 := rfl

/-! ### raiseScrubbed -/

@[simp] theorem raiseScrubbed_params (op : Op) (e : Result) (s : State) : (raiseScrubbed op e s).params = s.params := rfl
@[simp] theorem raiseScrubbed_slot (op : Op) (e : Result) (s : State) : (raiseScrubbed op e s).slot = s.slot := rfl
@[simp] theorem raiseScrubbed_phase (op : Op) (e : Result) (s : State) : (raiseScrubbed op e s).phase = phaseAfterError op s.phase := rfl
@[simp] theorem raiseScrubbed_ident (op : Op) (e : Result) (s : State) : (raiseScrubbed op e s).ident = s.ident := rfl
@[simp] theorem raiseScrubbed_setup (op : Op) (e : Result) (s : State) : (raiseScrubbed op e s).setup = s.setup := rfl
@[simp] theorem raiseScrubbed_taint (op : Op) (e : Result) (s : State) : (raiseScrubbed op e s).taint = s.taint := rfl
@[simp] theorem raiseScrubbed_resetOut (op : Op) (e : Result) (s : State) : (raiseScrubbed op e s).resetOut = s.resetOut := rfl
@[simp] theorem raiseScrubbed_status (op : Op) (e : Result) (s : State) : (raiseScrubbed op e s).status = e := rfl
@[simp] theorem raiseScrubbed_seq (op : Op) (e : Result) (s : State) : (raiseScrubbed op e s).seq = Seq.idle := rfl
@[simp] theorem raiseScrubbed_operands (op : Op) (e : Result) (s : State) : (raiseScrubbed op e s).operands = s.operands := rfl
@[simp] theorem raiseScrubbed_res (op : Op) (e : Result) (s : State) : (raiseScrubbed op e s).res = Config.freeRes (s.fresh + 1) := rfl
@[simp] theorem raiseScrubbed_txbuf (op : Op) (e : Result) (s : State) : (raiseScrubbed op e s).txbuf = s.txbuf := rfl
@[simp] theorem raiseScrubbed_rxbuf (op : Op) (e : Result) (s : State) : (raiseScrubbed op e s).rxbuf = Buf.unspecified s.fresh := rfl
@[simp] theorem raiseScrubbed_trace (op : Op) (e : Result) (s : State) : (raiseScrubbed op e s).trace = s.trace ++ [.result (.op op) e] := rfl
@[simp] theorem raiseScrubbed_env (op : Op) (e : Result) (s : State) : (raiseScrubbed op e s).env = s.env := rfl
@[simp] theorem raiseScrubbed_inbox (op : Op) (e : Result) (s : State) : (raiseScrubbed op e s).inbox = s.inbox := rfl
@[simp] theorem raiseScrubbed_fresh (op : Op) (e : Result) (s : State) : (raiseScrubbed op e s).fresh = s.fresh + 1 + 1 := rfl

/-! ### refuse -/

@[simp] theorem refuse_params (o : OpId) (r : Reason) (s : State) : (refuse o r s).params = s.params := rfl
@[simp] theorem refuse_slot (o : OpId) (r : Reason) (s : State) : (refuse o r s).slot = s.slot := rfl
@[simp] theorem refuse_phase (o : OpId) (r : Reason) (s : State) : (refuse o r s).phase = s.phase := rfl
@[simp] theorem refuse_ident (o : OpId) (r : Reason) (s : State) : (refuse o r s).ident = s.ident := rfl
@[simp] theorem refuse_setup (o : OpId) (r : Reason) (s : State) : (refuse o r s).setup = s.setup := rfl
@[simp] theorem refuse_taint (o : OpId) (r : Reason) (s : State) : (refuse o r s).taint = s.taint := rfl
@[simp] theorem refuse_resetOut (o : OpId) (r : Reason) (s : State) : (refuse o r s).resetOut = s.resetOut := rfl
@[simp] theorem refuse_status (o : OpId) (r : Reason) (s : State) : (refuse o r s).status = .refused r := rfl
@[simp] theorem refuse_seq (o : OpId) (r : Reason) (s : State) : (refuse o r s).seq = s.seq := rfl
@[simp] theorem refuse_operands (o : OpId) (r : Reason) (s : State) : (refuse o r s).operands = s.operands := rfl
@[simp] theorem refuse_res (o : OpId) (r : Reason) (s : State) : (refuse o r s).res = s.res := rfl
@[simp] theorem refuse_txbuf (o : OpId) (r : Reason) (s : State) : (refuse o r s).txbuf = s.txbuf := rfl
@[simp] theorem refuse_rxbuf (o : OpId) (r : Reason) (s : State) : (refuse o r s).rxbuf = s.rxbuf := rfl
@[simp] theorem refuse_trace (o : OpId) (r : Reason) (s : State) : (refuse o r s).trace = s.trace ++ [.result o (.refused r)] := rfl
@[simp] theorem refuse_env (o : OpId) (r : Reason) (s : State) : (refuse o r s).env = s.env := rfl
@[simp] theorem refuse_inbox (o : OpId) (r : Reason) (s : State) : (refuse o r s).inbox = s.inbox := rfl
@[simp] theorem refuse_fresh (o : OpId) (r : Reason) (s : State) : (refuse o r s).fresh = s.fresh := rfl

/-! ### presentOnLink -/

@[simp] theorem presentOnLink_params (bs : List Byte) (s : State) : (presentOnLink bs s).params = s.params := rfl
@[simp] theorem presentOnLink_slot (bs : List Byte) (s : State) : (presentOnLink bs s).slot = s.slot := rfl
@[simp] theorem presentOnLink_phase (bs : List Byte) (s : State) : (presentOnLink bs s).phase = s.phase := rfl
@[simp] theorem presentOnLink_ident (bs : List Byte) (s : State) : (presentOnLink bs s).ident = s.ident := rfl
@[simp] theorem presentOnLink_setup (bs : List Byte) (s : State) : (presentOnLink bs s).setup = s.setup := rfl
@[simp] theorem presentOnLink_taint (bs : List Byte) (s : State) : (presentOnLink bs s).taint = s.taint := rfl
@[simp] theorem presentOnLink_resetOut (bs : List Byte) (s : State) : (presentOnLink bs s).resetOut = s.resetOut := rfl
@[simp] theorem presentOnLink_status (bs : List Byte) (s : State) : (presentOnLink bs s).status = s.status := rfl
@[simp] theorem presentOnLink_seq (bs : List Byte) (s : State) : (presentOnLink bs s).seq = s.seq := rfl
@[simp] theorem presentOnLink_operands (bs : List Byte) (s : State) : (presentOnLink bs s).operands = s.operands := rfl
@[simp] theorem presentOnLink_res (bs : List Byte) (s : State) : (presentOnLink bs s).res = s.res := rfl
@[simp] theorem presentOnLink_txbuf (bs : List Byte) (s : State) : (presentOnLink bs s).txbuf = s.txbuf := rfl
@[simp] theorem presentOnLink_rxbuf (bs : List Byte) (s : State) : (presentOnLink bs s).rxbuf = s.rxbuf := rfl
@[simp] theorem presentOnLink_trace (bs : List Byte) (s : State) : (presentOnLink bs s).trace = s.trace := rfl
@[simp] theorem presentOnLink_env (bs : List Byte) (s : State) : (presentOnLink bs s).env = { s.env with xfer := s.env.xfer ++ [.answers bs] } := rfl
@[simp] theorem presentOnLink_inbox (bs : List Byte) (s : State) : (presentOnLink bs s).inbox = s.inbox := rfl
@[simp] theorem presentOnLink_fresh (bs : List Byte) (s : State) : (presentOnLink bs s).fresh = s.fresh := rfl

/-! ### receive -/

@[simp] theorem receive_params (n : Nat) (g : List Byte) (s : State) : (receive n g s).params = s.params := rfl
@[simp] theorem receive_slot (n : Nat) (g : List Byte) (s : State) : (receive n g s).slot = s.slot := rfl
@[simp] theorem receive_phase (n : Nat) (g : List Byte) (s : State) : (receive n g s).phase = s.phase := rfl
@[simp] theorem receive_ident (n : Nat) (g : List Byte) (s : State) : (receive n g s).ident = s.ident := rfl
@[simp] theorem receive_setup (n : Nat) (g : List Byte) (s : State) : (receive n g s).setup = s.setup := rfl
@[simp] theorem receive_taint (n : Nat) (g : List Byte) (s : State) : (receive n g s).taint = s.taint := rfl
@[simp] theorem receive_resetOut (n : Nat) (g : List Byte) (s : State) : (receive n g s).resetOut = s.resetOut := rfl
@[simp] theorem receive_status (n : Nat) (g : List Byte) (s : State) : (receive n g s).status = s.status := rfl
@[simp] theorem receive_seq (n : Nat) (g : List Byte) (s : State) : (receive n g s).seq = s.seq := rfl
@[simp] theorem receive_operands (n : Nat) (g : List Byte) (s : State) : (receive n g s).operands = s.operands := rfl
@[simp] theorem receive_res (n : Nat) (g : List Byte) (s : State) : (receive n g s).res = s.res := rfl
@[simp] theorem receive_txbuf (n : Nat) (g : List Byte) (s : State) : (receive n g s).txbuf = s.txbuf := rfl
@[simp] theorem receive_rxbuf (n : Nat) (g : List Byte) (s : State) : (receive n g s).rxbuf = Buf.ofBytes s.fresh (received s.fresh n g) := rfl
@[simp] theorem receive_trace (n : Nat) (g : List Byte) (s : State) : (receive n g s).trace = s.trace ++ [.xfer (slice s.txbuf.read 0 n) (received s.fresh n g)] := rfl
@[simp] theorem receive_env (n : Nat) (g : List Byte) (s : State) : (receive n g s).env = s.env := rfl
@[simp] theorem receive_inbox (n : Nat) (g : List Byte) (s : State) : (receive n g s).inbox = s.inbox := rfl
@[simp] theorem receive_fresh (n : Nat) (g : List Byte) (s : State) : (receive n g s).fresh = s.fresh + 1 := rfl

/-! ### assemble -/

@[simp] theorem assemble_params (L : Nat) (dir mid mt midx : Byte) (p : List Byte) (s : State) : (assemble L dir mid mt midx p s).params = s.params := rfl
@[simp] theorem assemble_slot (L : Nat) (dir mid mt midx : Byte) (p : List Byte) (s : State) : (assemble L dir mid mt midx p s).slot = s.slot := rfl
@[simp] theorem assemble_phase (L : Nat) (dir mid mt midx : Byte) (p : List Byte) (s : State) : (assemble L dir mid mt midx p s).phase = s.phase := rfl
@[simp] theorem assemble_ident (L : Nat) (dir mid mt midx : Byte) (p : List Byte) (s : State) : (assemble L dir mid mt midx p s).ident = s.ident := rfl
@[simp] theorem assemble_setup (L : Nat) (dir mid mt midx : Byte) (p : List Byte) (s : State) : (assemble L dir mid mt midx p s).setup = s.setup := rfl
@[simp] theorem assemble_taint (L : Nat) (dir mid mt midx : Byte) (p : List Byte) (s : State) : (assemble L dir mid mt midx p s).taint = s.taint := rfl
@[simp] theorem assemble_resetOut (L : Nat) (dir mid mt midx : Byte) (p : List Byte) (s : State) : (assemble L dir mid mt midx p s).resetOut = s.resetOut := rfl
@[simp] theorem assemble_status (L : Nat) (dir mid mt midx : Byte) (p : List Byte) (s : State) : (assemble L dir mid mt midx p s).status = s.status := rfl
@[simp] theorem assemble_seq (L : Nat) (dir mid mt midx : Byte) (p : List Byte) (s : State) : (assemble L dir mid mt midx p s).seq = s.seq := rfl
@[simp] theorem assemble_operands (L : Nat) (dir mid mt midx : Byte) (p : List Byte) (s : State) : (assemble L dir mid mt midx p s).operands = s.operands := rfl
@[simp] theorem assemble_res (L : Nat) (dir mid mt midx : Byte) (p : List Byte) (s : State) : (assemble L dir mid mt midx p s).res = s.res := rfl
@[simp] theorem assemble_txbuf (L : Nat) (dir mid mt midx : Byte) (p : List Byte) (s : State) : (assemble L dir mid mt midx p s).txbuf = frameImage s.fresh s.slot L dir mid mt midx p := rfl
@[simp] theorem assemble_rxbuf (L : Nat) (dir mid mt midx : Byte) (p : List Byte) (s : State) : (assemble L dir mid mt midx p s).rxbuf = s.rxbuf := rfl
@[simp] theorem assemble_trace (L : Nat) (dir mid mt midx : Byte) (p : List Byte) (s : State) : (assemble L dir mid mt midx p s).trace = s.trace := rfl
@[simp] theorem assemble_env (L : Nat) (dir mid mt midx : Byte) (p : List Byte) (s : State) : (assemble L dir mid mt midx p s).env = s.env := rfl
@[simp] theorem assemble_inbox (L : Nat) (dir mid mt midx : Byte) (p : List Byte) (s : State) : (assemble L dir mid mt midx p s).inbox = s.inbox := rfl
@[simp] theorem assemble_fresh (L : Nat) (dir mid mt midx : Byte) (p : List Byte) (s : State) : (assemble L dir mid mt midx p s).fresh = s.fresh + 1 := rfl

/-! ### assembleProbe -/

@[simp] theorem assembleProbe_params (P : Nat) (s : State) : (assembleProbe P s).params = s.params := rfl
@[simp] theorem assembleProbe_slot (P : Nat) (s : State) : (assembleProbe P s).slot = s.slot := rfl
@[simp] theorem assembleProbe_phase (P : Nat) (s : State) : (assembleProbe P s).phase = s.phase := rfl
@[simp] theorem assembleProbe_ident (P : Nat) (s : State) : (assembleProbe P s).ident = s.ident := rfl
@[simp] theorem assembleProbe_setup (P : Nat) (s : State) : (assembleProbe P s).setup = s.setup := rfl
@[simp] theorem assembleProbe_taint (P : Nat) (s : State) : (assembleProbe P s).taint = s.taint := rfl
@[simp] theorem assembleProbe_resetOut (P : Nat) (s : State) : (assembleProbe P s).resetOut = s.resetOut := rfl
@[simp] theorem assembleProbe_status (P : Nat) (s : State) : (assembleProbe P s).status = s.status := rfl
@[simp] theorem assembleProbe_seq (P : Nat) (s : State) : (assembleProbe P s).seq = s.seq := rfl
@[simp] theorem assembleProbe_operands (P : Nat) (s : State) : (assembleProbe P s).operands = s.operands := rfl
@[simp] theorem assembleProbe_res (P : Nat) (s : State) : (assembleProbe P s).res = s.res := rfl
@[simp] theorem assembleProbe_txbuf (P : Nat) (s : State) : (assembleProbe P s).txbuf = probeImage s.fresh P s.params.probeTxChecksum := rfl
@[simp] theorem assembleProbe_rxbuf (P : Nat) (s : State) : (assembleProbe P s).rxbuf = s.rxbuf := rfl
@[simp] theorem assembleProbe_trace (P : Nat) (s : State) : (assembleProbe P s).trace = s.trace := rfl
@[simp] theorem assembleProbe_env (P : Nat) (s : State) : (assembleProbe P s).env = s.env := rfl
@[simp] theorem assembleProbe_inbox (P : Nat) (s : State) : (assembleProbe P s).inbox = s.inbox := rfl
@[simp] theorem assembleProbe_fresh (P : Nat) (s : State) : (assembleProbe P s).fresh = s.fresh + 1 := rfl

/-! ### abandonOp -/

@[simp] theorem abandonOp_params (op : Op) (s : State) : (abandonOp op s).params = s.params := rfl
@[simp] theorem abandonOp_slot (op : Op) (s : State) : (abandonOp op s).slot = s.slot := rfl
@[simp] theorem abandonOp_phase (op : Op) (s : State) : (abandonOp op s).phase = if abandonResetsPhase op then .unidentified else s.phase := rfl
@[simp] theorem abandonOp_ident (op : Op) (s : State) : (abandonOp op s).ident = if abandonResetsPhase op then ⟨false, Config.freeIdent s.fresh⟩ else s.ident := rfl
@[simp] theorem abandonOp_setup (op : Op) (s : State) : (abandonOp op s).setup = s.setup := rfl
@[simp] theorem abandonOp_taint (op : Op) (s : State) : (abandonOp op s).taint = true := rfl
@[simp] theorem abandonOp_resetOut (op : Op) (s : State) : (abandonOp op s).resetOut = s.resetOut := rfl
@[simp] theorem abandonOp_status (op : Op) (s : State) : (abandonOp op s).status = .abandoned := rfl
@[simp] theorem abandonOp_seq (op : Op) (s : State) : (abandonOp op s).seq = Seq.idle := rfl
@[simp] theorem abandonOp_operands (op : Op) (s : State) : (abandonOp op s).operands = s.operands := rfl
@[simp] theorem abandonOp_res (op : Op) (s : State) : (abandonOp op s).res = Config.freeRes s.fresh := rfl
@[simp] theorem abandonOp_txbuf (op : Op) (s : State) : (abandonOp op s).txbuf = Buf.unspecified s.fresh := rfl
@[simp] theorem abandonOp_rxbuf (op : Op) (s : State) : (abandonOp op s).rxbuf = Buf.unspecified (s.fresh + 1) := rfl
@[simp] theorem abandonOp_trace (op : Op) (s : State) : (abandonOp op s).trace = s.trace ++ [.result (.op op) .abandoned] := rfl
@[simp] theorem abandonOp_env (op : Op) (s : State) : (abandonOp op s).env = s.env := rfl
@[simp] theorem abandonOp_inbox (op : Op) (s : State) : (abandonOp op s).inbox = s.inbox := rfl
@[simp] theorem abandonOp_fresh (op : Op) (s : State) : (abandonOp op s).fresh = s.fresh + 2 := rfl

end Sys2Proof.Machine
end

