-- ==== Sys2Proof/Laws/Ops.lean ====
section
/-! SUPPORT. For each shared operation, once, everything it can do: what it answers to each draw, and what it leaves alone whatever is
drawn. -/

namespace Sys2Proof.Machine

open Host (Outcome)

/-! ### What each operation answers to a draw -/

theorem drawReady_cons {s : State} {d : ReadyDraw} {rest : List ReadyDraw} (h : s.env.ready = d :: rest) :
    drawReady s = (d, { s with env := { s.env with ready := rest } }) := by simp [drawReady, h]

theorem drawDrive_cons {s : State} {d : DriveDraw} {rest : List DriveDraw} (h : s.env.drive = d :: rest) :
    drawDrive s = (d, { s with env := { s.env with drive := rest } }) := by simp [drawDrive, h]

theorem drawXfer_cons {s : State} {d : XferDraw} {rest : List XferDraw} (h : s.env.xfer = d :: rest) :
    drawXfer s = (d, { s with env := { s.env with xfer := rest } }) := by simp [drawXfer, h]

theorem drawStray_cons {s : State} {d : StrayDraw} {rest : List StrayDraw} (h : s.env.stray = d :: rest) :
    drawStray s = (d, { s with env := { s.env with stray := rest } }) := by simp [drawStray, h]

theorem gate_asserted {s : State} {rest : List ReadyDraw} (h : s.env.ready = .asserted :: rest) :
    gate s = .passed (emit (.ready .asserted) { s with env := { s.env with ready := rest } }) := by
  simp [gate, drawReady_cons h]

theorem gate_fails {s : State} {rest : List ReadyDraw} (h : s.env.ready = .fails :: rest) :
    gate s = .failed (.resourceError .readyLine) (emit (.fail .readyLine) { s with env := { s.env with ready := rest } }) := by
  simp [gate, drawReady_cons h]

theorem gate_deasserted_sync {s : State} {rest : List ReadyDraw} (h : s.env.ready = .deasserted :: rest)
    (hs : s.params.sched = .sync) :
    gate s = .failed .moduleUnavailable (emit (.ready .deasserted) { s with env := { s.env with ready := rest } }) := by
  simp [gate, drawReady_cons h, hs]

theorem gate_deasserted_coop {s : State} {rest : List ReadyDraw} (h : s.env.ready = .deasserted :: rest)
    (hs : s.params.sched = .coop) : gate s = .held { s with env := { s.env with ready := rest } } := by
  simp [gate, drawReady_cons h, hs]

@[simp] theorem gateIf_false (s : State) : gateIf false s = .passed s := rfl
@[simp] theorem gateIf_true (s : State) : gateIf true s = gate s := rfl

theorem xfer_answers {s : State} {n : Nat} {given : List Byte} {rest : List XferDraw} (h : s.env.xfer = .answers given :: rest) :
    xfer n s = .passed (receive n given { s with env := { s.env with xfer := rest } }) := by
  simp [xfer, drawXfer_cons h]

theorem xfer_fails {s : State} {n : Nat} {rest : List XferDraw} (h : s.env.xfer = .fails :: rest) :
    xfer n s = .failed (.resourceError .channel)
      (scrubRx (emit (.fail .channel) { s with env := { s.env with xfer := rest } })) := by
  simp [xfer, drawXfer_cons h]

theorem driveReset_drives {s : State} {level : Level} {rest : List DriveDraw} (h : s.env.drive = .drives :: rest) :
    driveReset level s = .passed { emit (.reset level) { s with env := { s.env with drive := rest } } with
      resetOut := ResetOut.ofLevel level } := by
  simp [driveReset, drawDrive_cons h]

theorem driveReset_fails {s : State} {level : Level} {rest : List DriveDraw} (h : s.env.drive = .fails :: rest) :
    driveReset level s = .failed (.resourceError .resetLine)
      { emit (.fail .resetLine) { s with env := { s.env with drive := rest } } with resetOut := .unknown } := by
  simp [driveReset, drawDrive_cons h]

@[simp] theorem settle_passed (op : Op) (f : State → State) (s : State) : settle op f (.passed s) = f s := rfl
@[simp] theorem settle_held (op : Op) (f : State → State) (s : State) : settle op f (.held s) = s := rfl
@[simp] theorem settle_failed (op : Op) (f : State → State) (e : Result) (s : State) :
    settle op f (.failed e s) = raise op e s := rfl
@[simp] theorem settleScrubbed_passed (op : Op) (f : State → State) (s : State) : settleScrubbed op f (.passed s) = f s := rfl
@[simp] theorem settleScrubbed_held (op : Op) (f : State → State) (s : State) : settleScrubbed op f (.held s) = s := rfl
@[simp] theorem settleScrubbed_failed (op : Op) (f : State → State) (e : Result) (s : State) :
    settleScrubbed op f (.failed e s) = raiseScrubbed op e s := rfl

/-! ### What the resource primitives leave alone, whatever is drawn -/

/-- Everything but the trace, the draws, the counter, `RXBUF` and `RESET_OUT` is the same, and `RXBUF` is canonical if it was. -/
structure Moved (s t : State) : Prop where
  params : t.params = s.params
  slot : t.slot = s.slot
  phase : t.phase = s.phase
  ident : t.ident = s.ident
  setup : t.setup = s.setup
  taint : t.taint = s.taint
  status : t.status = s.status
  seq : t.seq = s.seq
  operands : t.operands = s.operands
  res : t.res = s.res
  txbuf : t.txbuf = s.txbuf
  inbox : t.inbox = s.inbox
  rxWf : s.rxbuf.wf s.params.frameCap = true → t.rxbuf.wf s.params.frameCap = true

theorem Moved.refl (s : State) : Moved s s :=
  ⟨rfl, rfl, rfl, rfl, rfl, rfl, rfl, rfl, rfl, rfl, rfl, rfl, id⟩

theorem Moved.trans {s t u : State} (h1 : Moved s t) (h2 : Moved t u) : Moved s u :=
  ⟨h2.params.trans h1.params, h2.slot.trans h1.slot, h2.phase.trans h1.phase, h2.ident.trans h1.ident,
    h2.setup.trans h1.setup, h2.taint.trans h1.taint, h2.status.trans h1.status, h2.seq.trans h1.seq,
    h2.operands.trans h1.operands, h2.res.trans h1.res, h2.txbuf.trans h1.txbuf, h2.inbox.trans h1.inbox,
    fun h => by have := h2.rxWf; rw [h1.params] at this; exact this (h1.rxWf h)⟩

theorem emit_moved (e : Event) (s : State) : Moved s (emit e s) :=
  ⟨rfl, rfl, rfl, rfl, rfl, rfl, rfl, rfl, rfl, rfl, rfl, rfl, id⟩

theorem scrubRx_moved (s : State) : Moved s (scrubRx s) :=
  ⟨rfl, rfl, rfl, rfl, rfl, rfl, rfl, rfl, rfl, rfl, rfl, rfl, fun _ => rfl⟩

theorem drawReady_moved (s : State) : Moved s (drawReady s).2 := by
  unfold drawReady
  split <;> exact ⟨rfl, rfl, rfl, rfl, rfl, rfl, rfl, rfl, rfl, rfl, rfl, rfl, id⟩

theorem drawDrive_moved (s : State) : Moved s (drawDrive s).2 := by
  unfold drawDrive
  split <;> exact ⟨rfl, rfl, rfl, rfl, rfl, rfl, rfl, rfl, rfl, rfl, rfl, rfl, id⟩

theorem drawXfer_moved (s : State) : Moved s (drawXfer s).2 := by
  unfold drawXfer
  split <;> exact ⟨rfl, rfl, rfl, rfl, rfl, rfl, rfl, rfl, rfl, rfl, rfl, rfl, id⟩

theorem drawStray_moved (s : State) : Moved s (drawStray s).2 := by
  unfold drawStray
  split <;> exact ⟨rfl, rfl, rfl, rfl, rfl, rfl, rfl, rfl, rfl, rfl, rfl, rfl, id⟩

/-- The state an attempt leaves. -/
def Attempt.after : Attempt → State
  | .passed s => s
  | .held s => s
  | .failed _ s => s

/-- The gate moves the ready line's draws and the trace; it holds only in Coop, and fails only with these two errors (R131, R132). -/
theorem gate_spec (s : State) :
    (∃ t, gate s = .passed (emit (.ready .asserted) t) ∧ Moved s t ∧ t.trace = s.trace) ∨
    (∃ t, gate s = .held t ∧ Moved s t ∧ t.trace = s.trace ∧ s.params.sched = .coop) ∨
    (∃ t, gate s = .failed .moduleUnavailable (emit (.ready .deasserted) t) ∧ Moved s t ∧ t.trace = s.trace ∧
      s.params.sched = .sync) ∨
    (∃ t, gate s = .failed (.resourceError .readyLine) (emit (.fail .readyLine) t) ∧ Moved s t ∧ t.trace = s.trace) := by
  have hm := drawReady_moved s
  have ht : (drawReady s).2.trace = s.trace := by unfold drawReady; split <;> rfl
  rcases hd : drawReady s with ⟨d, t⟩
  rw [hd] at hm ht
  simp only at hm ht
  cases d
  · exact .inl ⟨t, by simp [gate, hd], hm, ht⟩
  · cases hs : t.params.sched
    · exact .inr (.inr (.inl ⟨t, by simp [gate, hd, hs], hm, ht, by rw [← hm.params, hs]⟩))
    · exact .inr (.inl ⟨t, by simp [gate, hd, hs], hm, ht, by rw [← hm.params, hs]⟩)
  · exact .inr (.inr (.inr ⟨t, by simp [gate, hd], hm, ht⟩))

theorem gate_moved (s : State) : Moved s (gate s).after := by
  rcases gate_spec s with ⟨t, h, hm, -⟩ | ⟨t, h, hm, -⟩ | ⟨t, h, hm, -⟩ | ⟨t, h, hm, -⟩ <;> rw [h]
  · exact hm.trans (emit_moved _ _)
  · exact hm
  · exact hm.trans (emit_moved _ _)
  · exact hm.trans (emit_moved _ _)

theorem gateIf_moved (g : Bool) (s : State) : Moved s (gateIf g s).after := by
  cases g
  · exact Moved.refl s
  · exact gate_moved s

theorem delayIf_moved (d : Option Duration) (s : State) : Moved s (delayIf d s) := by
  cases d
  · exact Moved.refl s
  · exact emit_moved _ _

theorem preludeHalf_moved (g : Bool) (d : Option Duration) (second : Bool) (s : State) :
    Moved s (preludeHalf g d second s).after := by
  unfold preludeHalf
  split
  · exact gateIf_moved g s
  · exact delayIf_moved d s
  · exact delayIf_moved d s
  · exact gateIf_moved g s

/-- A transfer either receives its bytes or fails with the channel (R130). -/
theorem xfer_spec (n : Nat) (s : State) :
    (∃ given t, xfer n s = .passed (receive n given t) ∧ Moved s t ∧ t.trace = s.trace) ∨
    (∃ t, xfer n s = .failed (.resourceError .channel) (scrubRx (emit (.fail .channel) t)) ∧ Moved s t ∧
      t.trace = s.trace) := by
  have hm := drawXfer_moved s
  have ht : (drawXfer s).2.trace = s.trace := by unfold drawXfer; split <;> rfl
  rcases hd : drawXfer s with ⟨d, t⟩
  rw [hd] at hm ht
  cases d with
  | fails => exact .inr ⟨t, by simp [xfer, hd], hm, ht⟩
  | answers given => exact .inl ⟨given, t, by simp [xfer, hd], hm, ht⟩

theorem receive_moved {n : Nat} (given : List Byte) {s : State} (h : n ≤ s.params.frameCap) : Moved s (receive n given s) :=
  ⟨rfl, rfl, rfl, rfl, rfl, rfl, rfl, rfl, rfl, rfl, rfl, rfl, fun _ => Buf.wf_ofBytes (by simpa using h)⟩

theorem xfer_moved {n : Nat} {s : State} (h : n ≤ s.params.frameCap) : Moved s (xfer n s).after := by
  rcases xfer_spec n s with ⟨g, t, hx, hm, -⟩ | ⟨t, hx, hm, -⟩ <;> rw [hx]
  · exact hm.trans (receive_moved g (by rw [hm.params]; exact h))
  · exact hm.trans ((emit_moved _ _).trans (scrubRx_moved _))

/-- A drive of the reset line either drives it or fails with it (R130). -/
theorem driveReset_spec (level : Level) (s : State) :
    (∃ t, driveReset level s = .passed { emit (.reset level) t with resetOut := ResetOut.ofLevel level } ∧ Moved s t ∧
      t.trace = s.trace) ∨
    (∃ t, driveReset level s = .failed (.resourceError .resetLine) { emit (.fail .resetLine) t with resetOut := .unknown } ∧
      Moved s t ∧ t.trace = s.trace) := by
  have hm := drawDrive_moved s
  have ht : (drawDrive s).2.trace = s.trace := by unfold drawDrive; split <;> rfl
  rcases hd : drawDrive s with ⟨d, t⟩
  rw [hd] at hm ht
  cases d with
  | fails => exact .inr ⟨t, by simp [driveReset, hd], hm, ht⟩
  | drives => exact .inl ⟨t, by simp [driveReset, hd], hm, ht⟩

theorem driveReset_moved (level : Level) (s : State) : Moved s (driveReset level s).after := by
  rcases driveReset_spec level s with ⟨t, hx, hm, -⟩ | ⟨t, hx, hm, -⟩ <;> rw [hx]
  · exact hm.trans ⟨rfl, rfl, rfl, rfl, rfl, rfl, rfl, rfl, rfl, rfl, rfl, rfl, id⟩
  · exact hm.trans ⟨rfl, rfl, rfl, rfl, rfl, rfl, rfl, rfl, rfl, rfl, rfl, rfl, id⟩

/-- What an abandoned transfer leaves on the wire changes the trace, the draws and the counter alone (U3). -/
theorem strayIfPending_moved (s : State) : Moved s (strayIfPending s) := by
  unfold strayIfPending
  split
  · unfold strayEvent
    have hm := drawStray_moved s
    rcases hd : drawStray s with ⟨d, t⟩
    rw [hd] at hm
    cases d
    · exact hm
    · exact hm.trans ⟨rfl, rfl, rfl, rfl, rfl, rfl, rfl, rfl, rfl, rfl, rfl, rfl, id⟩
  · exact Moved.refl s

/-! ### Requests -/

/-- A request is refused, or its first micro-step is taken (R28, R208). -/
theorem ifAdmitted_refused {s : State} {op : Op} {bad : Option Reason} {act : State → State} {r : Reason}
    (h : refusal s op bad = some r) : ifAdmitted op bad act s = refuse (.op op) r s := by simp [ifAdmitted, h]

theorem ifAdmitted_accepted {s : State} {op : Op} {bad : Option Reason} {act : State → State}
    (h : refusal s op bad = none) : ifAdmitted op bad act s = act s := by simp [ifAdmitted, h]

/-- What an accepted request but ABANDON says of the state (R208, R209, R214, R215). -/
theorem refusal_none {s : State} {op : Op} {bad : Option Reason} (hop : op ≠ .abandon) :
    refusal s op bad = none ↔
      s.setup = .ok ∧ s.seq.op = none ∧ phaseAdmits op s.phase = true ∧ (s.taint && needsTrust op) = false ∧ bad = none := by
  unfold refusal
  by_cases h1 : s.setup = .ok <;> by_cases h2 : s.seq.op = none <;> cases h3 : phaseAdmits op s.phase <;>
    cases h4 : (s.taint && needsTrust op) <;> simp [h1, h2, hop]

/-- ABANDON is accepted exactly while an operation is in progress in Coop mode (R165). -/
theorem refusal_abandon_none {s : State} {bad : Option Reason} :
    refusal s .abandon bad = none ↔ s.setup = .ok ∧ s.params.sched = .coop ∧ s.seq.op ≠ none := by
  unfold refusal
  by_cases h1 : s.setup = .ok <;> by_cases h2 : s.params.sched = .coop ∧ s.seq.op ≠ none <;> simp_all

/-! ### Operand checks as inequalities -/

theorem lenLegal_iff (s : State) (L : Len) : lenLegal s L = true ↔ LegalLen s L := by
  rw [lenLegal, Bool.and_eq_true, decide_eq_true_iff, decide_eq_true_iff]
  rfl

theorem mtLegal_iff (mt : Byte) : mtLegal mt = true ↔ LegalMt mt := by
  simp only [mtLegal, LegalMt, mtModuleId, mtConfiguration, mtData, mtFeedback, Bool.or_eq_true, beq_iff_eq]
  bv_omega

theorem badXfer_none (s : State) (a : XferArgs) : badXfer s a = none ↔ LegalXfer s a := by
  unfold badXfer LegalXfer
  rw [← lenLegal_iff, ← mtLegal_iff]
  cases h1 : lenLegal s a.len <;> cases h2 : mtLegal a.mt <;> by_cases h3 : a.dir = 1 <;>
    by_cases h4 : a.payload.length = a.len.toNat - 7 <;> simp [payloadFits, dirToModule, h3, h4]
  split <;> simp

theorem cfgLenLegal_iff (s : State) (f : CfgFrame) :
    cfgLenLegal s f = true ↔ LegalLen s f.len ∧ f.payload.length = f.len.toNat - 7 := by
  simp [cfgLenLegal, payloadFits, lenLegal_iff]

theorem badBuild_none (s : State) (P : Len) (cfg : List CfgFrame) :
    badBuild s P cfg = none ↔ LegalLen s P ∧ cfg ≠ [] ∧ ∀ f ∈ cfg, LegalCfg s f := by
  unfold badBuild LegalCfg
  rw [← lenLegal_iff]
  have h1 : (cfg.all (cfgLenLegal s) = true) ↔ ∀ f ∈ cfg, LegalLen s f.len ∧ f.payload.length = f.len.toNat - 7 := by
    simp [cfgLenLegal_iff]
  have h2 : ((cfg.all fun f => mtLegal f.mt) = true) ↔ ∀ f ∈ cfg, LegalMt f.mt := by simp [mtLegal_iff]
  have h3 : cfg.isEmpty = true ↔ cfg = [] := List.isEmpty_iff
  constructor
  · intro h
    by_cases hl : (lenLegal s P && cfg.all (cfgLenLegal s)) = true
    · by_cases hm : (cfg.all fun f => mtLegal f.mt) = true
      · by_cases he : cfg.isEmpty = true
        · simp [hl, hm, he] at h
        · rw [Bool.and_eq_true] at hl
          exact ⟨hl.1, fun hc => he (h3.2 hc),
            fun f hf => ⟨(h1.1 hl.2 f hf).1, (h1.1 hl.2 f hf).2, h2.1 hm f hf⟩⟩
      · simp [hl, hm] at h
    · simp [hl] at h
  · rintro ⟨hP, hne, hall⟩
    have ha : cfg.all (cfgLenLegal s) = true := h1.2 fun f hf => ⟨(hall f hf).1, (hall f hf).2.1⟩
    have hb : (cfg.all fun f => mtLegal f.mt) = true := h2.2 fun f hf => (hall f hf).2.2
    have hc : cfg.isEmpty = false := by simpa using hne
    simp [hP, ha, hb, hc]

end Sys2Proof.Machine
end

