-- ==== Sys2Proof/Laws/PerInstr.lean ====
section
/-! SUPPORT. The per-instruction family `RowMatch`: the word the encoder writes for an instruction matches its row of
spec/opcode_table.json, byte by byte under the row's mask (R92, R97). One lemma per constructor. -/

namespace Sys2Proof.Laws

/-- The encoding of an instruction matches its row of the table. -/
def RowMatch.Statement (i : Instr) : Prop := (tableRow i).fits (encode i) = true

/-- A message matches a FRAME row exactly when its direction and message type bytes are the row's. -/
theorem frameRow_fits {dir mt : Byte} {digits : Nat} (h : bytesOfDigits rowBytes digits = [0, 0, dir, 0, mt, 0])
    (b0 b1 b2 b3 b4 b5 : Byte) (t : List Byte) :
    (TableRow.wire digits frameMask).fits (.wire (b0 :: b1 :: b2 :: b3 :: b4 :: b5 :: t)) = true ↔ b2 = dir ∧ b4 = mt := by
  have hm : bytesOfDigits rowBytes frameMask = [0#8, 0#8, 0xFF#8, 0#8, 0xFF#8, 0#8] := by decide
  have hx (b : Byte) : b &&& 0xFF#8 = b := BitVec.and_allOnes
  simp [TableRow.fits, h, hm, byteAt, List.range_succ, hx]

/-- A message matches the PROBE row exactly when its bytes 0 and 2 are 19. -/
theorem probeRow_fits (b0 b1 b2 : Byte) (t : List Byte) :
    (TableRow.wire 0x130013000000 0xFF00FF000000).fits (.wire (b0 :: b1 :: b2 :: t)) = true ↔ b0 = 19#8 ∧ b2 = 19#8 := by
  have h : bytesOfDigits rowBytes 0x130013000000 = [19#8, 0, 19#8, 0, 0, 0] := by decide
  have hm : bytesOfDigits rowBytes 0xFF00FF000000 = [0xFF#8, 0#8, 0xFF#8, 0#8, 0#8, 0#8] := by decide
  have hx (b : Byte) : b &&& 0xFF#8 = b := BitVec.and_allOnes
  simp [TableRow.fits, h, hm, byteAt, List.range_succ, hx]

/-- A request matches a CMD row exactly when its command code is the row's. -/
theorem cmdRow_fits (code cmd : Byte) (ops : Operands) : (TableRow.cmd code 0xFF).fits (.request cmd ops) = true ↔ cmd = code := by
  have hx (b : Byte) : b &&& 0xFF#8 = b := BitVec.and_allOnes
  simp [TableRow.fits, hx]

theorem RowMatch.chk (buf : BufSel) (len : Len) : RowMatch.Statement (.chk buf len) := rfl
theorem RowMatch.wrh (len : Len) (dir mid mt midx : Byte) : RowMatch.Statement (.wrh len dir mid mt midx) := rfl
theorem RowMatch.val (buf : BufSel) (len : Len) : RowMatch.Statement (.val buf len) := rfl
theorem RowMatch.echo (buf : BufSel) (mid mt midx : Byte) : RowMatch.Statement (.echo buf mid mt midx) := rfl
theorem RowMatch.esc (probeLen : Len) : RowMatch.Statement (.esc probeLen) := rfl
theorem RowMatch.xchg (a : XferArgs) : RowMatch.Statement (.xchg a) := rfl
theorem RowMatch.wr (a : XferArgs) : RowMatch.Statement (.wr a) := rfl
theorem RowMatch.srst (level : Level) : RowMatch.Statement (.srst level) := rfl
theorem RowMatch.rrdy : RowMatch.Statement .rrdy := rfl
theorem RowMatch.xchge (a : XferArgs) : RowMatch.Statement (.xchge a) := rfl
theorem RowMatch.reset : RowMatch.Statement .reset := rfl
theorem RowMatch.build (idexp : Ident) (probeLen : Len) (cfg : List CfgFrame) : RowMatch.Statement (.build idexp probeLen cfg) := rfl
theorem RowMatch.degrade : RowMatch.Statement .degrade := rfl
theorem RowMatch.abandon : RowMatch.Statement .abandon := rfl
theorem RowMatch.frameToModuleid (f : FrameArgs) : RowMatch.Statement (.frameToModuleid f) :=
  (frameRow_fits (dir := 1) (mt := 1) (by decide) _ _ _ _ _ _ _).2 ⟨rfl, rfl⟩
theorem RowMatch.frameToConfiguration (f : FrameArgs) : RowMatch.Statement (.frameToConfiguration f) :=
  (frameRow_fits (dir := 1) (mt := 2) (by decide) _ _ _ _ _ _ _).2 ⟨rfl, rfl⟩
theorem RowMatch.frameToData (f : FrameArgs) : RowMatch.Statement (.frameToData f) :=
  (frameRow_fits (dir := 1) (mt := 3) (by decide) _ _ _ _ _ _ _).2 ⟨rfl, rfl⟩
theorem RowMatch.frameToFeedback (f : FrameArgs) : RowMatch.Statement (.frameToFeedback f) :=
  (frameRow_fits (dir := 1) (mt := 4) (by decide) _ _ _ _ _ _ _).2 ⟨rfl, rfl⟩
theorem RowMatch.frameFromModuleid (f : FrameArgs) : RowMatch.Statement (.frameFromModuleid f) :=
  (frameRow_fits (dir := 2) (mt := 1) (by decide) _ _ _ _ _ _ _).2 ⟨rfl, rfl⟩
theorem RowMatch.frameFromConfiguration (f : FrameArgs) : RowMatch.Statement (.frameFromConfiguration f) :=
  (frameRow_fits (dir := 2) (mt := 2) (by decide) _ _ _ _ _ _ _).2 ⟨rfl, rfl⟩
theorem RowMatch.frameFromData (f : FrameArgs) : RowMatch.Statement (.frameFromData f) :=
  (frameRow_fits (dir := 2) (mt := 3) (by decide) _ _ _ _ _ _ _).2 ⟨rfl, rfl⟩
theorem RowMatch.frameFromFeedback (f : FrameArgs) : RowMatch.Statement (.frameFromFeedback f) :=
  (frameRow_fits (dir := 2) (mt := 4) (by decide) _ _ _ _ _ _ _).2 ⟨rfl, rfl⟩
theorem RowMatch.probe (p : ProbeArgs) : RowMatch.Statement (.probe p) := (probeRow_fits _ _ _ _).2 ⟨rfl, rfl⟩

/-- No two FRAME and PROBE rows agree on the bits that both fix, so no message matches two of them. -/
theorem wireRows_disjoint :
    List.Pairwise (fun r r' : Nat × Nat => r.1 &&& r'.2 ≠ r'.1 &&& r.2)
      [(0x000001000100, frameMask), (0x000001000200, frameMask), (0x000001000300, frameMask), (0x000001000400, frameMask),
        (0x000002000100, frameMask), (0x000002000200, frameMask), (0x000002000300, frameMask), (0x000002000400, frameMask),
        (0x130013000000, 0xFF00FF000000)] := by decide

end Sys2Proof.Laws
end

