-- ==== Sys2Proof/Tests/Slice0.lean ====
section
/-! SUPPORT. The model's own tests, their expected values from the tables of 30_encoding.md and the vectors V1 to V115 of
95_test_vectors.md, and, for every statement with hypotheses, a state and operands that meet them all. -/

namespace Sys2Proof.Tests

open Sys2Proof Sys2Proof.Machine

/-! ### Small states -/

/-- The environment that draws nothing beforehand. -/
def noEnv : Env := ⟨[], [], [], []⟩

/-- An idle instance on slot 3 in a phase, with these draws to come. -/
def idleIn (phase : Phase) (valid : Bool) (env : Env) : State :=
  { State.reset with phase := phase, ident := ⟨valid, ⟨0x14, 0x0A, 0x01⟩⟩, operands := Operands.zero, res := .nothing, env := env }

/-- An idle Unidentified instance. -/
def unid (env : Env) : State := idleIn .unidentified false env

/-- An idle Bound instance. -/
def bound (env : Env) : State := idleIn .bound true env

/-- The state an instruction leaves (the state before it where it stops). -/
def after (i : Instr) (s : State) : State :=
  match exec i s with
  | .next t => t
  | .fault _ => s
  | .refused _ => s

/-- The state one turn of the sequencer leaves. -/
def turn (s : State) : State :=
  match advance s with
  | .next t => t
  | .fault _ => s
  | .refused _ => s

/-- The instance with these bytes in `RXBUF`. -/
def withRx (bytes : List Byte) (s : State) : State := { s with rxbuf := Buf.ofBytes 0 bytes }

/-- The instance with the sequencer at a position. -/
def at_ (q : Machine.Seq) (s : State) : State := { s with seq := q }

/-- The instance with other parameters. -/
def withParams (p : Params) (s : State) : State := { s with params := p }

/-- The parameters in the Coop scheduling model. -/
def coop : Params := { Params.vectors with sched := .coop }

/-- The operands of V46, V110: mid 11, mt 3, midx 1, L 10, payload zeros. -/
def args46 : XferArgs := ⟨1, 11, 3, 1, [0, 0, 0], 10, none⟩

/-- The good response of V46. -/
def rx46 : List Byte := [0x03#8, 0x09#8, 0x02#8, 0x0B#8, 0x03#8, 0x01#8, 0x2A, 0x00#8, 0x00#8, 0x47#8]

/-- The identity of the vectors. -/
def id1 : Ident := ⟨0x14, 0x0A, 0x01⟩

/-- The configuration record of P1. -/
def cfg1 : CfgFrame := ⟨11, 2, 1, 10, [1, 2, 3], none⟩

/-- A Bound instance in an exchange with the operands of V46. -/
def inXfer (q : Machine.Seq) (env : Env) : State :=
  { at_ q (bound env) with operands := Operands.zero.withXferArgs args46 }

/-- An instance in BUILD with one record and a probe of 10 bytes. -/
def inBuild (q : Machine.Seq) (env : Env) : State :=
  { at_ q (unid env) with operands := { Operands.zero with idexp := id1, probeLen := 10, cfg := [cfg1] } }

/-- An instance in RESET. -/
def inReset (k : Nat) (env : Env) : State := at_ (Seq.start .reset k) (idleIn .reset false env)

/-! ### Well-formedness refuses ill-formed terms (R8) -/

theorem test_short_frame_is_ill_formed : WellFormed (.frameToData ⟨3, 5, 11, 1, []⟩) = false := by decide
theorem test_long_frame_is_ill_formed : WellFormed (.frameFromData ⟨3, 0, 11, 1, List.replicate 251 0⟩) = false := by
  rw [WellFormed, FrameArgs.wf, List.length_replicate]; decide
theorem test_short_probe_is_ill_formed : WellFormed (.probe ⟨5, [0, 0, 0]⟩) = false := by decide
theorem test_long_probe_is_ill_formed : WellFormed (.probe ⟨0, List.replicate 254 0⟩) = false := by
  rw [WellFormed, ProbeArgs.wf, List.length_replicate]; decide
theorem test_largest_frame_is_well_formed : WellFormed (.frameFromData ⟨3, 255, 11, 1, List.replicate 250 0⟩) = true := by
  rw [WellFormed, FrameArgs.wf, List.length_replicate]; decide

/-! ### Decoding: a word of every constructor, written from the tables (R29, R80, R89, R92) -/

/-- Operands that differ from each other everywhere. -/
def ops1 : Operands := ⟨1, 11, 3, 2, 10, [0x2A, 0, 0], some 5, 1, 1, ⟨0x14, 0x0A, 0x01⟩, 56, [cfg1]⟩

theorem test_decode_chk : decode (.request 0x01 ops1) = .ok (.chk .rx 10) := by decide
theorem test_decode_wrh : decode (.request 0x02 ops1) = .ok (.wrh 10 1 11 3 2) := by decide
theorem test_decode_val : decode (.request 0x03 { ops1 with bufsel := 0 }) = .ok (.val .tx 10) := by decide
theorem test_decode_echo : decode (.request 0x04 ops1) = .ok (.echo .rx 11 3 2) := by decide
theorem test_decode_esc : decode (.request 0x10 ops1) = .ok (.esc 56) := by decide
theorem test_decode_xchg : decode (.request 0x11 ops1) = .ok (.xchg ⟨1, 11, 3, 2, [0x2A, 0, 0], 10, some 5⟩) := by decide
theorem test_decode_wr : decode (.request 0x12 ops1) = .ok (.wr ⟨1, 11, 3, 2, [0x2A, 0, 0], 10, some 5⟩) := by decide
theorem test_decode_srst : decode (.request 0x13 ops1) = .ok (.srst .high) := by decide
theorem test_decode_rrdy : decode (.request 0x14 ops1) = .ok .rrdy := by decide
theorem test_decode_xchge : decode (.request 0x15 ops1) = .ok (.xchge ⟨1, 11, 3, 2, [0x2A, 0, 0], 10, some 5⟩) := by decide
theorem test_decode_reset : decode (.request 0x20 ops1) = .ok .reset := by decide
theorem test_decode_build : decode (.request 0x21 ops1) = .ok (.build ⟨0x14, 0x0A, 0x01⟩ 56 [cfg1]) := by decide
theorem test_decode_degrade : decode (.request 0x22 ops1) = .ok .degrade := by decide
theorem test_decode_abandon : decode (.request 0x23 ops1) = .ok .abandon := by decide
/-- V15. -/
theorem test_decode_frame_to_moduleid :
    decode (.wire [0x01#8, 0x06#8, 0x01#8, 0x00#8, 0x01#8, 0x00#8, 0x09#8]) = .ok (.frameToModuleid ⟨1, 6, 0, 0, [9]⟩) := by decide
/-- V16. -/
theorem test_decode_frame_to_configuration :
    decode (.wire [0x03#8, 0x09#8, 0x01#8, 0x0B#8, 0x02#8, 0x01#8, 0x01#8, 0x02#8, 0x03#8, 0x21#8]) =
      .ok (.frameToConfiguration ⟨3, 9, 11, 1, [1, 2, 3, 0x21]⟩) := by decide
/-- V62. -/
theorem test_decode_frame_to_data :
    decode (.wire [0x03#8, 0x0B#8, 0x01#8, 0x0B#8, 0x03#8, 0x02#8, 0x01#8, 0xFF#8, 0xFF#8, 0xFF#8, 0xFF#8, 0x1C#8]) =
      .ok (.frameToData ⟨3, 11, 11, 2, [1, 0xFF, 0xFF, 0xFF, 0xFF, 0x1C]⟩) := by decide
theorem test_decode_frame_to_feedback :
    decode (.wire [0x08#8, 0x06#8, 0x01#8, 0x00#8, 0x04#8, 0x00#8, 0x13#8]) = .ok (.frameToFeedback ⟨8, 6, 0, 0, [0x13]⟩) := by decide
theorem test_decode_frame_from_moduleid :
    decode (.wire [0x02#8, 0x06#8, 0x02#8, 0x05#8, 0x01#8, 0x07#8, 0x17#8]) = .ok (.frameFromModuleid ⟨2, 6, 5, 7, [0x17]⟩) := by decide
/-- The configuration answer of P1. -/
theorem test_decode_frame_from_configuration :
    decode (.wire [0x03#8, 0x09#8, 0x02#8, 0x0B#8, 0x02#8, 0x01#8, 0x00#8, 0x00#8, 0x00#8, 0x1C#8]) =
      .ok (.frameFromConfiguration ⟨3, 9, 11, 1, [0, 0, 0, 0x1C]⟩) := by decide
/-- V21. -/
theorem test_decode_frame_from_data : decode (.wire rx46) = .ok (.frameFromData ⟨3, 9, 11, 1, [0x2A, 0, 0, 0x47]⟩) := by decide
theorem test_decode_frame_from_feedback :
    decode (.wire [0x02#8, 0x06#8, 0x02#8, 0x05#8, 0x04#8, 0x00#8, 0x13#8]) = .ok (.frameFromFeedback ⟨2, 6, 5, 0, [0x13]⟩) := by decide
/-- R89 with P = 10. -/
theorem test_decode_probe :
    decode (.wire [0x13#8, 0x09#8, 0x13#8, 0x00#8, 0x00#8, 0x00#8, 0x00#8, 0x00#8, 0x00#8, 0x2F#8]) =
      .ok (.probe ⟨9, [0, 0, 0, 0, 0, 0, 0x2F]⟩) := by decide
/-- V103. -/
theorem test_reject_unknown_command : decode (.request 0x05 ops1) = .error (.unknownCommand 5) := by decide
theorem test_reject_reserved_direction :
    decode (.wire [0x03#8, 0x06#8, 0x03#8, 0x05#8, 0x04#8, 0x00#8, 0x13#8]) = .error (.reservedDirection 3) := by decide
theorem test_reject_reserved_message_type :
    decode (.wire [0x03#8, 0x06#8, 0x02#8, 0x05#8, 0x05#8, 0x00#8, 0x13#8]) = .error (.reservedMessageType 5) := by decide
theorem test_reject_short_frame : decode (.wire [3, 5, 2, 5, 4, 0]) = .error .shortFrame := by decide
/-- The digits of the row FRAME_FROM_DATA, byte 0 leftmost (R97). -/
theorem test_table_word : decodeTableWord 48 0x000002000300 = some (.frameFromData ⟨0, 0, 0, 0, [0]⟩) := by decide
/-- The digits of the row PROBE (R97). -/
theorem test_table_word_probe : decodeTableWord 48 0x130013000000 = some (.probe ⟨0, [0, 0, 0, 0]⟩) := by decide

/-! ### One step of each instruction -/

/-- V11. -/
theorem test_chk : (after (.chk .rx 8) (withRx [0x08#8, 0x07#8, 0x01#8, 0xFF#8, 0x03#8, 0xFF#8, 0xFF#8, 0x77#8] (unid noEnv))).res =
    .byte 0x10 := by decide
/-- V14. -/
theorem test_chk_bad_length : (after (.chk .rx 6) (unid noEnv)).status = .refused .badLength := by decide
/-- V16. -/
theorem test_wrh :
    slice (after (.wrh 10 1 11 2 1) { unid noEnv with txbuf := (Buf.unspecified 0).writeBytes 6 [1, 2, 3] }).txbuf.read 0 10 =
      [0x03#8, 0x09#8, 0x01#8, 0x0B#8, 0x02#8, 0x01#8, 0x01#8, 0x02#8, 0x03#8, 0x21#8] := by decide
/-- V19. -/
theorem test_wrh_bad_direction : (after (.wrh 10 3 11 2 1) (unid noEnv)).status = .refused .badDirection := by decide
/-- V21. -/
theorem test_val : (after (.val .rx 10) (withRx rx46 (unid noEnv))).res = .bool true := by decide
/-- V22. -/
theorem test_val_length_byte :
    (after (.val .rx 10) (withRx [0x03#8, 0x08#8, 0x02#8, 0x0B#8, 0x03#8, 0x01#8, 0x2A, 0x00#8, 0x00#8, 0x46#8] (unid noEnv))).res =
      .bool false := by decide
/-- V28. -/
theorem test_echo : (after (.echo .rx 11 3 1) (withRx rx46 (unid noEnv))).res = .bool true := by decide
/-- V31. -/
theorem test_echo_message_index :
    (after (.echo .rx 11 3 1) (withRx [0x03#8, 0x09#8, 0x02#8, 0x0B#8, 0x03#8, 0x02#8, 0x2A, 0x00#8, 0x00#8, 0x48#8] (unid noEnv))).res =
      .bool false := by decide
/-- R89, R135 with P = 10: 19 + 9 + 19 = 47. -/
theorem test_esc : slice (after (.esc 10) (unid noEnv)).txbuf.read 0 10 =
    [0x13#8, 0x09#8, 0x13#8, 0x00#8, 0x00#8, 0x00#8, 0x00#8, 0x00#8, 0x00#8, 0x2F#8] := by decide
/-- V44. -/
theorem test_esc_wrong_phase : (after (.esc 56) (bound noEnv)).status = .refused .wrongPhase := by decide
/-- V46: the frame sent. -/
theorem test_xchg : slice (after (.xchg args46) (bound noEnv)).txbuf.read 0 10 =
    [0x03#8, 0x09#8, 0x01#8, 0x0B#8, 0x03#8, 0x01#8, 0x00#8, 0x00#8, 0x00#8, 0x1C#8] := by decide
/-- V54: the check of a response with direction 1. -/
theorem test_xchg_direction :
    (turn (withRx [0x03#8, 0x09#8, 0x01#8, 0x0B#8, 0x03#8, 0x01#8, 0x2A, 0x00#8, 0x00#8, 0x46#8]
      (inXfer (Seq.start .xchg 3) noEnv))).status = .unableToSerDe := by decide
/-- V62: the frame sent. -/
theorem test_wr : slice (after (.wr ⟨1, 11, 3, 2, [1, 0xFF, 0xFF, 0xFF, 0xFF], 12, none⟩) (bound noEnv)).txbuf.read 0 12 =
    [0x03#8, 0x0B#8, 0x01#8, 0x0B#8, 0x03#8, 0x02#8, 0x01#8, 0xFF#8, 0xFF#8, 0xFF#8, 0xFF#8, 0x1C#8] := by decide
/-- V62: the response is ignored. -/
theorem test_wr_ignores_response :
    (turn (withRx [0, 0, 0, 0, 0, 0, 0, 0, 0, 0] (inXfer (Seq.start .wr 3) noEnv))).status = .ok := by decide
/-- V65. -/
theorem test_srst : (after (.srst .low) (unid { noEnv with drive := [.drives] })).trace =
    [.reset .low, .result (.op .srst) .ok] := by decide
/-- V66. -/
theorem test_srst_fails : (after (.srst .high) (unid { noEnv with drive := [.fails] })).resetOut = .unknown := by decide
/-- V68. -/
theorem test_rrdy : (after .rrdy (bound { noEnv with ready := [.deasserted] })).res = .level .deasserted := by decide
/-- V69. -/
theorem test_rrdy_fails : (after .rrdy (unid { noEnv with ready := [.fails] })).status = .resourceError .readyLine := by decide
/-- V110: the last step. -/
theorem test_xchge : (turn (withRx rx46 (inXfer (Seq.start .xchge 5) noEnv))).res = .payload [0x2A, 0, 0] := by decide
/-- V111: the echo check. -/
theorem test_xchge_module_id :
    (turn (withRx [0x03#8, 0x09#8, 0x02#8, 0x0C#8, 0x03#8, 0x01#8, 0x2A, 0x00#8, 0x00#8, 0x48#8]
      (inXfer (Seq.start .xchge 4) noEnv))).status = .unableToSerDe := by decide
/-- V80: `PHASE = Reset` from acceptance on. -/
theorem test_reset : (after .reset (unid noEnv)).phase = .reset := by decide
/-- V81. -/
theorem test_reset_first_drive_fails : (turn (inReset 1 { noEnv with drive := [.fails] })).trace =
    [.fail .resetLine, .result (.op .reset) (.resourceError .resetLine)] := by decide
/-- V90. -/
theorem test_build_empty_config : (after (.build id1 56 []) (unid noEnv)).status = .refused .emptyConfig := by decide
/-- V87 with a probe of 10 bytes (3+9+2+0+1+0+20+10+2 = 47). -/
theorem test_build_identity :
    (turn (withRx [0x03#8, 0x09#8, 0x02#8, 0x00#8, 0x01#8, 0x00#8, 0x14#8, 0x0A#8, 0x02#8, 0x2F#8]
      (inBuild (Seq.start .build 2) noEnv))).status = .identityMismatch := by decide
/-- V96. -/
theorem test_degrade : (after .degrade (bound noEnv)).phase = .unidentified := by decide
/-- V97. -/
theorem test_degrade_wrong_phase : (after .degrade (unid noEnv)).status = .refused .wrongPhase := by decide
/-- V101. -/
theorem test_abandon : (after .abandon (withParams coop (inReset 2 noEnv))).trace = [.result (.op .reset) .abandoned] := by decide
/-- V98. -/
theorem test_abandon_idle : (after .abandon (withParams coop (bound noEnv))).status = .refused .nothingToAbandon := by decide
/-- A presented frame waits on the link; byte 2 and byte 4 are the row's (R97). -/
theorem test_frame_to_moduleid : (after (.frameToModuleid ⟨1, 6, 0, 0, [9]⟩) (bound noEnv)).env.xfer =
    [.answers [1, 6, 1, 0, 1, 0, 9]] := by decide
theorem test_frame_to_configuration : (after (.frameToConfiguration ⟨3, 6, 11, 1, [9]⟩) (bound noEnv)).env.xfer =
    [.answers [3, 6, 1, 11, 2, 1, 9]] := by decide
theorem test_frame_to_data : (after (.frameToData ⟨3, 6, 11, 1, [9]⟩) (bound noEnv)).env.xfer =
    [.answers [3, 6, 1, 11, 3, 1, 9]] := by decide
theorem test_frame_to_feedback : (after (.frameToFeedback ⟨3, 6, 11, 1, [9]⟩) (bound noEnv)).env.xfer =
    [.answers [3, 6, 1, 11, 4, 1, 9]] := by decide
theorem test_frame_from_moduleid : (after (.frameFromModuleid ⟨3, 6, 11, 1, [9]⟩) (bound noEnv)).env.xfer =
    [.answers [3, 6, 2, 11, 1, 1, 9]] := by decide
theorem test_frame_from_configuration : (after (.frameFromConfiguration ⟨3, 6, 11, 1, [9]⟩) (bound noEnv)).env.xfer =
    [.answers [3, 6, 2, 11, 2, 1, 9]] := by decide
theorem test_frame_from_data : (after (.frameFromData ⟨3, 9, 11, 1, [0x2A, 0, 0, 0x47]⟩) (bound noEnv)).env.xfer =
    [.answers rx46] := by decide
theorem test_frame_from_feedback : (after (.frameFromFeedback ⟨3, 6, 11, 1, [9]⟩) (bound noEnv)).env.xfer =
    [.answers [3, 6, 2, 11, 4, 1, 9]] := by decide
theorem test_probe : (after (.probe ⟨6, [0, 0, 0, 0x2C]⟩) (bound noEnv)).env.xfer = [.answers [19, 6, 19, 0, 0, 0, 0x2C]] := by decide
/-- A word placed at the port is what the next step takes. -/
theorem test_fetch : (State.reset.withFetchWord 8 0x22).inbox = [.present (.request 0x22 Operands.zero)] := by decide
/-- The host reads the frame received after Ok (R40): its payload, nothing past its end, nothing of `TXBUF`. -/
theorem test_host_reads_frame :
    (withRx rx46 (bound noEnv)).readBuf .rx 6 = some 0x2A ∧ (withRx rx46 (bound noEnv)).readBuf .rx 10 = none ∧
    (withRx rx46 (bound noEnv)).readBuf .tx 0 = none := by decide
/-- While an operation runs, and after an error, the host reads no buffer (R40). -/
theorem test_host_reads_no_frame :
    (withRx rx46 (inXfer (Seq.start .xchg 3) noEnv)).readBuf .rx 6 = none ∧
    { withRx rx46 (bound noEnv) with status := .checksumIncorrect }.readBuf .rx 6 = none := by decide
/-- V35, V36, V37. -/
theorem test_fields : sle .w32 (viewOf [0, 0, 0, 0, 0, 0, 0x00#8, 0x00#8, 0x00#8, 0x80#8, 0]) 6 11 = some (-2147483648) ∧
    le .w16 (viewOf [0, 0, 0, 0, 0, 0, 0xEF#8, 0xBE#8, 0]) 6 9 = some 48879 ∧
    sle .w8 (viewOf [0, 0, 0, 0, 0, 0, 0x80#8, 0]) 6 8 = some (-128) := by decide

/-! ### Witnesses: states and operands that meet the hypotheses of each statement -/

/-- DecodeEncodeAgree, EncodeDecodeAgreeOnTheWire: a request, and the smallest and the largest wire message. -/
theorem witness_encoding :
    WellFormed (.xchg args46) = true ∧ WellFormed (.frameToFeedback ⟨8, 6, 0, 0, [0x13]⟩) = true ∧
    WellFormed (.frameFromData ⟨3, 255, 11, 1, List.replicate 250 0⟩) = true ∧ WellFormed (.probe ⟨6, [0, 0, 0, 0x2C]⟩) = true ∧
    decode (.wire [0x13#8, 0x06#8, 0x13#8, 0, 0, 0, 0x2C#8]) = .ok (.probe ⟨6, [0, 0, 0, 0x2C]⟩) ∧
    decode (.wire rx46) = .ok (.frameFromData ⟨3, 9, 11, 1, [0x2A, 0, 0, 0x47]⟩) :=
  ⟨by decide, by decide, test_largest_frame_is_well_formed, by decide, by decide, by decide⟩

/-- TransmittedFramesAreTableRows: the shortest and the longest frame. -/
theorem witness_transmitted_frames :
    (7 ≤ 7 ∧ 7 ≤ 256 ∧ ([] : List Byte).length = 7 - 7) ∧ (7 ≤ 256 ∧ 256 ≤ 256 ∧ (List.replicate 249 (0xFF : Byte)).length = 256 - 7) :=
  ⟨by decide, by decide, by decide, by rw [List.length_replicate]⟩

/-- An instance with these inputs at its port. -/
def withInbox (l : List Input) (s : State) : State := { s with inbox := l }

/-- StepRunsTheDecodedInstruction, WordsOfNoRow: a request, a frame, an unknown command and a wire message of no row at the port. -/
theorem witness_words :
    (withInbox [.present (.request 0x22 Operands.zero), .pause] (bound noEnv)).inbox = .present (.request 0x22 Operands.zero) :: [.pause] ∧
    decode (.request 0x22 Operands.zero) = .ok .degrade ∧
    (withInbox [.present (.wire rx46)] (bound noEnv)).inbox = .present (.wire rx46) :: [] ∧
    decode (.wire rx46) = .ok (.frameFromData ⟨3, 9, 11, 1, [0x2A, 0, 0, 0x47]⟩) ∧
    (withInbox [.present (.request 0x05 Operands.zero)] (unid noEnv)).inbox = .present (.request 0x05 Operands.zero) :: [] ∧
    (0x05#8 : Byte) ∉ [0x01#8, 0x02#8, 0x03#8, 0x04#8, 0x10#8, 0x11#8, 0x12#8, 0x13#8, 0x14#8, 0x15#8, 0x20#8, 0x21#8, 0x22#8, 0x23#8] ∧
    Ready (withInbox [.present (.request 0x05 Operands.zero)] (unid noEnv)) ∧
    (inReset 1 noEnv).setup = .ok ∧ (inReset 1 noEnv).seq.op ≠ none ∧
    (State.construct coop 9 none noEnv).setup ≠ .ok ∧
    (withInbox [.present (.wire [])] (unid noEnv)).inbox = .present (.wire []) :: [] ∧ decode (.wire []) = .error .shortFrame :=
  ⟨rfl, by decide, rfl, by decide, rfl, by decide, ⟨rfl, rfl⟩, rfl, by decide, by decide, rfl, by decide⟩

/-- TurnsOfTheSequencer: one state for each clause. -/
theorem witness_turns :
    (inReset 1 noEnv).inbox = [] ∧ (withInbox [.pause] (inReset 1 noEnv)).inbox = .pause :: [] ∧
    ((withInbox [.await] (bound noEnv)).inbox = .await :: [] ∧ (withInbox [.await] (bound noEnv)).seq.op = none) ∧
    ((withInbox [.await] (inReset 1 noEnv)).inbox = .await :: [] ∧ (withInbox [.await] (inReset 1 noEnv)).seq.op ≠ none) ∧
    ((bound noEnv).inbox = [] ∧ (bound noEnv).seq.op = none) :=
  ⟨rfl, rfl, ⟨rfl, rfl⟩, ⟨rfl, by decide⟩, rfl, rfl⟩

/-- ChkComputesTheChecksum, ValAnswersTheThreeConjuncts, EchoComparesTheHeader, WrhWritesHeaderAndChecksum: the smallest and the largest
legal length, both directions, and each of the illegal operands. -/
theorem witness_codec :
    Ready (unid noEnv) ∧ LegalLen (unid noEnv) 7 ∧ LegalLen (unid noEnv) 256 ∧ ¬LegalLen (unid noEnv) 6 ∧ ¬LegalLen (unid noEnv) 257 ∧
    LegalMt 1 ∧ LegalMt 4 ∧ ¬LegalMt 0 ∧ ¬LegalMt 5 ∧ ((0 : Byte) ≠ 1 ∧ (0 : Byte) ≠ 2) ∧ ((3 : Byte) ≠ 1 ∧ (3 : Byte) ≠ 2) ∧
    ((1 : Byte) = 1 ∨ (1 : Byte) = 2) ∧ ((2 : Byte) = 1 ∨ (2 : Byte) = 2) :=
  ⟨⟨rfl, rfl⟩, ⟨by decide, by decide⟩, ⟨by decide, by decide⟩, fun h => absurd h.1 (by decide), fun h => absurd h.2 (by decide),
    ⟨by decide, by decide⟩, ⟨by decide, by decide⟩, fun h => absurd h.1 (by decide), fun h => absurd h.2 (by decide),
    by decide, by decide, by decide, by decide⟩

/-- OneChangedByteIsDetected, at the first and at the last byte of V21. -/
theorem witness_one_changed_byte :
    cksOk (viewOf rx46) 10 = true ∧
    (viewOf rx46 0 ≠ viewOf (4 :: rx46.tail) 0 ∧ ∀ j, j < 10 → j ≠ 0 → viewOf rx46 j = viewOf (4 :: rx46.tail) j) ∧
    (viewOf rx46 9 ≠ viewOf (rx46.dropLast ++ [0x46]) 9 ∧
      ∀ j, j < 10 → j ≠ 9 → viewOf rx46 j = viewOf (rx46.dropLast ++ [0x46]) j) := by decide

/-- ChecksumIgnoresOrder: V26. -/
theorem witness_order :
    (slice (viewOf [3, 9, 2, 11, 3, 1, 1, 2, 0, 0x20]) 0 (10 - 1)).Perm (slice (viewOf [3, 9, 2, 11, 3, 1, 2, 1, 0, 0x20]) 0 (10 - 1)) := by
  decide

/-- PayloadFieldsReadBack: fields of each width at the first and the last place, the extreme signed values, and the two ways to lie
outside. -/
theorem witness_payload_fields :
    (6 ≤ 6 ∧ 6 + FieldWidth.w32.bytes ≤ 11 - 1) ∧ (6 ≤ 9 ∧ 9 + FieldWidth.w8.bytes ≤ 11 - 1) ∧
    (-(256 ^ FieldWidth.w32.bytes) ≤ 2 * (-2147483648 : Int) ∧ 2 * (2147483647 : Int) < 256 ^ FieldWidth.w32.bytes) ∧
    (5 < 6 ∨ 10 - 1 < 5 + FieldWidth.w8.bytes) ∧ (6 < 6 ∨ 10 - 1 < 6 + FieldWidth.w32.bytes) := by decide

/-- RefusalChangesStatusOnly, FailedSetupRefusesEveryRequest, BusyRefusesEveryRequestButAbandon, NothingToAbandon. -/
theorem witness_refusals :
    (opOf (.build id1 56 []) = some .build ∧
      refusal (unid noEnv) .build (operandRefusal (unid noEnv) (.build id1 56 [])) = some .emptyConfig) ∧
    (opOf .abandon = some .abandon ∧ refusal (unid noEnv) .abandon (operandRefusal (unid noEnv) .abandon) = some .nothingToAbandon) ∧
    (State.construct Params.vectors 3 (some .channel) noEnv).setup ≠ .ok ∧
    (opOf .rrdy = some .rrdy ∧ Op.rrdy ≠ .abandon ∧ (inReset 1 noEnv).setup = .ok ∧ (inReset 1 noEnv).seq.op ≠ none) ∧
    ((inReset 1 noEnv).setup = .ok ∧ (inReset 1 noEnv).params.sched = .sync) ∧
    ((withParams coop (bound noEnv)).setup = .ok ∧ (withParams coop (bound noEnv)).seq.op = none) := by decide

/-- PhaseAndTaintTable: an idle instance in each phase, untainted and tainted. -/
theorem witness_phase_table :
    Ready (bound noEnv) ∧ (bound noEnv).phase = .bound ∧ opOf .reset = some .reset ∧ Op.reset ∈ [Op.esc, .srst, .reset, .build] ∧
    Ready (unid noEnv) ∧ (unid noEnv).phase = .unidentified ∧ opOf .degrade = some .degrade ∧
    Op.degrade ∈ [Op.xchg, .wr, .xchge, .degrade] ∧
    Ready { unid noEnv with taint := true } ∧ opOf (.srst .low) = some .srst ∧ Op.srst ∈ [Op.esc, .srst, .build] ∧
    Ready { bound noEnv with taint := true } ∧ opOf (.wr args46) = some .wr ∧ Op.wr ∈ [Op.xchg, .wr, .xchge] ∧
    opOf .rrdy = some .rrdy ∧ Op.rrdy ∈ [Op.chk, .wrh, .val, .echo, .rrdy] :=
  ⟨⟨rfl, rfl⟩, rfl, rfl, by decide, ⟨rfl, rfl⟩, rfl, rfl, by decide, ⟨rfl, rfl⟩, rfl, by decide, ⟨rfl, rfl⟩, rfl, by decide, rfl,
    by decide⟩

/-- IllegalOperandsAreRefused: each illegal operand of a transport operation and of BUILD alone (V60, V61, V90, V91). -/
theorem witness_illegal_operands :
    (Ready (bound noEnv) ∧ (bound noEnv).phase = .bound ∧ (bound noEnv).taint = false) ∧
    ¬LegalXfer (bound noEnv) { args46 with payload := [0, 0] } ∧
    (¬LegalXfer (bound noEnv) { args46 with dir := 2 } ∧ LegalLen (bound noEnv) args46.len ∧
      args46.payload.length = args46.len.toNat - 7 ∧ (2 : Byte) ≠ 1) ∧
    ¬LegalXfer (bound noEnv) { args46 with mt := 5 } ∧
    ProbeReady (unid noEnv) ∧ LegalLen (unid noEnv) 56 ∧ ¬LegalLen (unid noEnv) 6 ∧
    ¬LegalCfg (unid noEnv) { cfg1 with len := 300 } ∧ LegalCfg (unid noEnv) cfg1 ∧ ¬LegalMt 7 :=
  ⟨⟨⟨rfl, rfl⟩, rfl, rfl⟩, fun h => absurd h.2.1 (by decide),
    ⟨fun h => absurd h.2.2.1 (by decide), ⟨by decide, by decide⟩, by decide, by decide⟩, fun h => absurd h.2.2.2.2 (by decide),
    ⟨⟨rfl, rfl⟩, rfl, rfl⟩, ⟨by decide, by decide⟩, fun h => absurd h.1 (by decide), fun h => absurd h.1.2 (by decide),
    ⟨⟨by decide, by decide⟩, by decide, by decide, by decide⟩, fun h => absurd h.2 (by decide)⟩

/-- AssembledFrameIsOnTxbuf, SyncGateTakesOneSample: the smallest frame, and each of the three draws. -/
theorem witness_primitives :
    (7 ≤ 7 ∧ ([] : List Byte).length = 7 - 7) ∧ (bound noEnv).params.sched = .sync ∧
    (bound { noEnv with ready := [.asserted] }).env.ready = .asserted :: [] ∧
    (bound { noEnv with ready := [.deasserted] }).env.ready = .deasserted :: [] ∧
    (bound { noEnv with ready := [.fails] }).env.ready = .fails :: [] := by decide

/-- The parameters with every gate on. -/
def gated : Params := { coop with escReadyGate := true }

/-- The parameters with the gate after the delay. -/
def gateLast : Params := { coop with gateOrder := .afterDelay }

/-- CoopGateHolds: two looks that find the line deasserted, at a gate of every kind, under both gate orders. -/
theorem witness_gates :
    (withParams gated (inXfer (Seq.start .xchg 1) { noEnv with ready := [.deasserted, .deasserted, .asserted] })).env.ready =
      List.replicate 2 .deasserted ++ [.asserted] ∧
    AtGate (withParams gated (inXfer (Seq.start .xchg 1) noEnv)) ∧ AtGate (withParams gated (inXfer (Seq.start .xchge 1) noEnv)) ∧
    AtGate (withParams gated (inXfer (Seq.start .wr 1) noEnv)) ∧
    AtGate (withParams gateLast (inXfer { Seq.start .xchg 1 with second := true } noEnv)) ∧
    AtGate (withParams gated { unid noEnv with seq := Seq.start .esc 1 }) ∧
    AtGate (withParams gated (inBuild (seqBuildProbe 1) noEnv)) ∧
    AtGate (withParams gated (inBuild (seqBuildFrame 0 1 false) noEnv)) :=
  ⟨rfl, .inr (.inl ⟨rfl, rfl, by decide⟩), .inr (.inr (.inr (.inl ⟨rfl, rfl, by decide⟩))),
    .inr (.inr (.inl ⟨rfl, rfl, by decide, rfl⟩)), .inr (.inl ⟨rfl, rfl, by decide⟩), .inl ⟨rfl, rfl, rfl⟩,
    .inr (.inr (.inr (.inr (.inl ⟨rfl, rfl, rfl, rfl⟩)))), .inr (.inr (.inr (.inr (.inr ⟨rfl, rfl, rfl, by decide, by decide, rfl⟩))))⟩

/-- ResourceFailuresEndTheOperation: a failing channel at each kind of transfer, a failing ready line at a gate and in RRDY, a failing
reset line in SRST and at both edges. -/
theorem witness_resource_failures :
    pendingXfer (inXfer (Seq.start .xchg 2) { noEnv with xfer := [.fails] }) = some 10 ∧
    pendingXfer (inXfer (Seq.start .wr 2) { noEnv with xfer := [.fails] }) = some 10 ∧
    pendingXfer (inXfer (Seq.start .xchge 2) { noEnv with xfer := [.fails] }) = some 10 ∧
    pendingXfer (inBuild (seqBuildProbe 2) { noEnv with xfer := [.fails] }) = some 10 ∧
    pendingXfer (inBuild (seqBuildFrame 0 2 false) { noEnv with xfer := [.fails] }) = some 10 ∧
    (inXfer (Seq.start .xchg 2) { noEnv with xfer := [.fails] }).env.xfer = .fails :: [] ∧
    (inXfer (Seq.start .xchg 1) { noEnv with ready := [.fails] }).env.ready = .fails :: [] ∧
    (Ready (bound { noEnv with ready := [.fails] }) ∧ (bound { noEnv with ready := [.fails] }).phase ≠ .reset) ∧
    ProbeReady (unid { noEnv with drive := [.fails] }) ∧
    ((inReset 1 { noEnv with drive := [.fails] }).seq.step = 1 ∧ (inReset 3 { noEnv with drive := [.fails] }).seq.step = 3 ∧
      (inReset 1 { noEnv with drive := [.fails] }).seq.op = some .reset ∧
      (inReset 1 { noEnv with drive := [.fails] }).env.drive = .fails :: []) := by
  unfold ProbeReady Ready
  decide

/-- The response of a module to a probe of 10 bytes, with the identity of the vectors (3+9+2+0+1+0+20+10+1 = 46). -/
def rsp10 : List Byte := [0x03#8, 0x09#8, 0x02#8, 0x00#8, 0x01#8, 0x00#8, 0x14#8, 0x0A#8, 0x01#8, 0x2E#8]

/-- The same with another identity (V87). -/
def rspOther : List Byte := [0x03#8, 0x09#8, 0x02#8, 0x00#8, 0x01#8, 0x00#8, 0x14#8, 0x0A#8, 0x02#8, 0x2F#8]

/-- The same with a wrong checksum (V88). -/
def rspBad : List Byte := [0x03#8, 0x09#8, 0x02#8, 0x00#8, 0x01#8, 0x00#8, 0x14#8, 0x0A#8, 0x01#8, 0x2F#8]

/-- The configuration answer of P1. -/
def rxCfg : List Byte := [0x03#8, 0x09#8, 0x02#8, 0x0B#8, 0x02#8, 0x01#8, 0x00#8, 0x00#8, 0x00#8, 0x1C#8]

/-- EscReturnsTheRawResponse: with a gate and without. -/
theorem witness_esc :
    (ProbeReady (unid { noEnv with xfer := [.answers rsp10] }) ∧ LegalLen (unid { noEnv with xfer := [.answers rsp10] }) 10 ∧
      (unid { noEnv with xfer := [.answers rsp10] }).inbox = [] ∧
      (unid { noEnv with xfer := [.answers rsp10] }).env.xfer = .answers rsp10 :: [] ∧ rsp10.length = (10 : Len).toNat ∧
      (unid { noEnv with xfer := [.answers rsp10] }).params.escReadyGate = false) ∧
    (ProbeReady (withParams gated (unid ⟨[.asserted], [.answers rsp10], [], []⟩)) ∧
      (withParams gated (unid ⟨[.asserted], [.answers rsp10], [], []⟩)).params.escReadyGate = true ∧
      (withParams gated (unid ⟨[.asserted], [.answers rsp10], [], []⟩)).env.ready = .asserted :: []) := by
  unfold ProbeReady Ready LegalLen
  decide

/-- The lengths, the slot and the message types of the vectors are legal. -/
theorem legal_numbers :
    (7 ≤ Params.vectors.frameCap ∧ Params.vectors.frameCap ≤ 256) ∧ (1 ≤ (3 : Byte).toNat ∧ (3 : Byte).toNat ≤ 8) ∧
    (7 ≤ (10 : Len).toNat ∧ (10 : Len).toNat ≤ Params.vectors.frameCap) ∧
    (7 ≤ (55 : Len).toNat ∧ (55 : Len).toNat ≤ Params.vectors.frameCap) ∧ (1 ≤ (2 : Byte).toNat ∧ (2 : Byte).toNat ≤ 4) ∧
    (1 ≤ (3 : Byte).toNat ∧ (3 : Byte).toNat ≤ 4) := by decide

/-- An instance that will be answered with these bytes, its module ready. -/
def answered (rx : List Byte) : State := bound ⟨[.asserted], [.answers rx], [], []⟩

/-- The hypotheses of an exchange with the operands of V46 hold of such an instance whatever the ten bytes are. -/
theorem exchangeReady_answered (rx : List Byte) (h : rx.length = 10) : ExchangeReady (answered rx) args46 rx [] :=
  ⟨⟨rfl, rfl⟩, rfl, rfl, rfl, ⟨legal_numbers.2.2.1, rfl, rfl, legal_numbers.2.2.2.2.2⟩, rfl, h⟩

/-- XchgDeliversThePayload, XchgeDeliversAnEchoedPayload: V46, V110. -/
theorem witness_good_response :
    ExchangeReady (answered rx46) args46 rx46 [] ∧ (answered rx46).env.ready = .asserted :: [] ∧
    validateResponse (viewOf rx46) args46.len.toNat = true ∧ checkEcho (viewOf rx46) args46.mid args46.mt args46.midx = true :=
  ⟨exchangeReady_answered _ rfl, rfl, by decide, by decide⟩

/-- BadResponsesAreRejected: V52 (checksum), V53 (length byte), V54 (direction). -/
theorem witness_bad_responses :
    (ExchangeReady (answered [3, 9, 2, 11, 3, 1, 0x2B, 0, 0, 0x47]) args46 [3, 9, 2, 11, 3, 1, 0x2B, 0, 0, 0x47] [] ∧
      validateResponse (viewOf [3, 9, 2, 11, 3, 1, 0x2B, 0, 0, 0x47]) 10 = false ∧
      cksOk (viewOf [3, 9, 2, 11, 3, 1, 0x2B, 0, 0, 0x47]) 10 = false) ∧
    (validateResponse (viewOf [3, 8, 2, 11, 3, 1, 0x2A, 0, 0, 0x46]) 10 = false ∧
      lenOk (viewOf [3, 8, 2, 11, 3, 1, 0x2A, 0, 0, 0x46]) 10 = false) ∧
    (validateResponse (viewOf [3, 9, 1, 11, 3, 1, 0x2A, 0, 0, 0x46]) 10 = false ∧
      cksOk (viewOf [3, 9, 1, 11, 3, 1, 0x2A, 0, 0, 0x46]) 10 = true ∧
      lenOk (viewOf [3, 9, 1, 11, 3, 1, 0x2A, 0, 0, 0x46]) 10 = true) :=
  ⟨⟨exchangeReady_answered _ rfl, by decide, by decide⟩, by decide, by decide⟩

/-- Configuration answers with a wrong checksum (V93), a wrong length byte and a wrong direction, each wrong in that alone. -/
def rxCfgBad : List (List Byte) :=
  [[0x03#8, 0x09#8, 0x02#8, 0x0B#8, 0x02#8, 0x01#8, 0x00#8, 0x00#8, 0x00#8, 0x1D#8],
    [0x03#8, 0x08#8, 0x02#8, 0x0B#8, 0x02#8, 0x01#8, 0x00#8, 0x00#8, 0x00#8, 0x1B#8],
    [0x03#8, 0x09#8, 0x01#8, 0x0B#8, 0x02#8, 0x01#8, 0x00#8, 0x00#8, 0x00#8, 0x1B#8]]

/-- BadResponsesAreRejected for BUILD: the first configuration frame gets a bad answer, and the one after an acknowledged one does. -/
theorem witness_bad_configuration_answer :
    (∀ env, ProbeReady (unid env) ∧ LegalLen (unid env) 10 ∧ (unid env).inbox = [] ∧ (unid env).params.cfgMode = .ack ∧
      ∀ g ∈ [cfg1] ++ cfg1 :: [], LegalCfg (unid env) g) ∧
    (∀ rx ∈ rxCfgBad, rx.length = cfg1.len.toNat ∧ validateResponse (viewOf rx) cfg1.len.toNat = false) ∧
    Answered Params.vectors [] [] ∧ Answered Params.vectors [cfg1] [rxCfg] ∧
    (cksOk (viewOf rsp10) 10 = true ∧ identOf (viewOf rsp10) = id1 ∧ rsp10.length = (10 : Len).toNat ∧ 9 ≤ (10 : Len).toNat) ∧
    (∀ rx, (unid ⟨[.asserted], [.answers rsp10, .answers rx], [], []⟩).env.xfer =
        .answers rsp10 :: (([] : List (List Byte)).map XferDraw.answers ++ .answers rx :: []) ∧
      (unid ⟨[.asserted, .asserted], [.answers rsp10, .answers rxCfg, .answers rx], [], []⟩).env.xfer =
        .answers rsp10 :: ([rxCfg].map XferDraw.answers ++ .answers rx :: [])) ∧
    (unid ⟨[.asserted, .asserted], [], [], []⟩).env.ready =
      List.replicate ((if Params.vectors.escReadyGate then 1 else 0) + [cfg1].length + 1) .asserted ++ [] :=
  ⟨fun _ => ⟨⟨⟨rfl, rfl⟩, rfl, rfl⟩, ⟨by decide, (by decide : (10 : Len).toNat ≤ 256)⟩, rfl, rfl, fun f hf => by
      have h : f = cfg1 := by simpa using hf
      subst h
      exact ⟨⟨by decide, (by decide : cfg1.len.toNat ≤ 256)⟩, by decide, by decide, by decide⟩⟩,
    by decide, .nil, .cons ⟨by decide, fun _ => by decide⟩ .nil, by decide, fun _ => ⟨rfl, rfl⟩, rfl⟩

/-- NotReadyIsModuleUnavailable: V49, V50, V64. -/
theorem witness_not_ready :
    (Ready (bound { noEnv with ready := [.deasserted] }) ∧ (bound { noEnv with ready := [.deasserted] }).phase = .bound ∧
      (bound { noEnv with ready := [.deasserted] }).taint = false ∧ (bound { noEnv with ready := [.deasserted] }).inbox = [] ∧
      (bound { noEnv with ready := [.deasserted] }).params.sched = .sync ∧
      (bound { noEnv with ready := [.deasserted] }).params.wrReadyGate = true ∧
      (bound { noEnv with ready := [.deasserted] }).params.gateOrder = .beforeDelay ∧
      (bound { noEnv with ready := [.deasserted] }).env.ready = .deasserted :: []) ∧
    LegalXfer (bound { noEnv with ready := [.deasserted] }) args46 ∧
    ({ Params.vectors with gateOrder := .afterDelay } : Params).sched = .sync := by
  unfold Ready LegalXfer LegalLen LegalMt
  decide

/-- The parameters with the probe gated. -/
def gatedSync : Params := { Params.vectors with escReadyGate := true }

/-- NotReadyIsModuleUnavailable for ESC and for BUILD at its probe: a gated probe and a module that is not ready. -/
theorem witness_not_ready_probe :
    ProbeReady (withParams gatedSync (unid { noEnv with ready := [.deasserted] })) ∧
    LegalLen (withParams gatedSync (unid { noEnv with ready := [.deasserted] })) 10 ∧
    (withParams gatedSync (unid { noEnv with ready := [.deasserted] })).inbox = [] ∧ gatedSync.sched = .sync ∧
    gatedSync.escReadyGate = true ∧
    (withParams gatedSync (unid { noEnv with ready := [.deasserted] })).env.ready = .deasserted :: [] ∧ [cfg1] ≠ [] ∧
    (∀ f ∈ [cfg1], LegalCfg (withParams gatedSync (unid { noEnv with ready := [.deasserted] })) f) :=
  ⟨⟨⟨rfl, rfl⟩, rfl, rfl⟩, ⟨by decide, by decide⟩, rfl, rfl, rfl, rfl, by decide, fun f hf => by
    rw [List.mem_singleton] at hf
    subst hf
    exact ⟨⟨by decide, by decide⟩, by decide, by decide, by decide⟩⟩

/-- NotReadyIsModuleUnavailable for BUILD at a configuration frame: the first one (the probe gated), and the one after an answered one. -/
theorem witness_not_ready_frame :
    (∀ env, (∀ g ∈ [cfg1] ++ cfg1 :: [], LegalCfg (withParams gatedSync (unid env)) g) ∧
      ProbeReady (withParams gatedSync (unid env))) ∧
    cfgGate gatedSync = true ∧ identOf (viewOf rsp10) = id1 ∧ cksOk (viewOf rsp10) 10 = true ∧
    (withParams gatedSync (unid ⟨[.asserted, .deasserted], [.answers rsp10], [], []⟩)).env.ready =
      List.replicate ((if gatedSync.escReadyGate then 1 else 0) + ([] : List CfgFrame).length) .asserted ++ .deasserted :: [] ∧
    (withParams gatedSync (unid ⟨[.asserted, .asserted, .deasserted], [.answers rsp10, .answers rxCfg], [], []⟩)).env.ready =
      List.replicate ((if gatedSync.escReadyGate then 1 else 0) + [cfg1].length) .asserted ++ .deasserted :: [] ∧
    (withParams gatedSync (unid ⟨[.asserted, .asserted, .deasserted], [.answers rsp10, .answers rxCfg], [], []⟩)).env.xfer =
      .answers rsp10 :: ([rxCfg].map XferDraw.answers ++ []) ∧
    Answered gatedSync [cfg1] [rxCfg] :=
  ⟨fun _ => ⟨fun f hf => by
      have h : f = cfg1 := by simpa using hf
      subst h
      exact ⟨⟨by decide, (by decide : cfg1.len.toNat ≤ 256)⟩, by decide, by decide, by decide⟩, ⟨rfl, rfl⟩, rfl, rfl⟩,
    rfl, by decide, by decide, rfl, rfl, rfl, .cons ⟨by decide, fun _ => by decide⟩ .nil⟩

/-- WrIgnoresTheResponse: gated, and not gated with no look at the line to come (V62, V63). -/
theorem witness_wr :
    (ExchangeReady (answered [0, 0, 0, 0, 0, 0, 0, 0, 0, 0]) args46 [0, 0, 0, 0, 0, 0, 0, 0, 0, 0] [] ∧
      (answered [0, 0, 0, 0, 0, 0, 0, 0, 0, 0]).params.wrReadyGate = true ∧
      (answered [0, 0, 0, 0, 0, 0, 0, 0, 0, 0]).env.ready = .asserted :: []) ∧
    (ExchangeReady (withParams { Params.vectors with wrReadyGate := false } (answered rx46)) args46 rx46 [] ∧
      (withParams { Params.vectors with wrReadyGate := false } (answered rx46)).params.wrReadyGate = false) :=
  ⟨⟨exchangeReady_answered _ rfl, rfl, rfl⟩, exchangeReady_answered _ rfl, rfl⟩

/-- SrstDrivesTheResetLine, RrdyReadsTheReadyLine: both draws, in both resting phases, untainted and tainted. -/
theorem witness_lines :
    (ProbeReady (unid { noEnv with drive := [.drives] }) ∧ (unid { noEnv with drive := [.drives] }).env.drive = .drives :: []) ∧
    (Ready (bound { noEnv with ready := [.asserted] }) ∧ (bound { noEnv with ready := [.asserted] }).phase ≠ .reset ∧
      (bound { noEnv with ready := [.asserted] }).env.ready = .asserted :: []) ∧
    (Ready { unid { noEnv with ready := [.deasserted] } with taint := true } ∧
      (unid { noEnv with ready := [.deasserted] }).phase ≠ .reset ∧
      (unid { noEnv with ready := [.deasserted] }).env.ready = .deasserted :: []) := by
  unfold ProbeReady Ready
  decide

/-- XchgeRejectsAForeignEcho: V111, V112, V113. -/
theorem witness_foreign_echo :
    ExchangeReady (answered [3, 9, 2, 11, 3, 2, 0x2A, 0, 0, 0x48]) args46 [3, 9, 2, 11, 3, 2, 0x2A, 0, 0, 0x48] [] ∧
    (validateResponse (viewOf [3, 9, 2, 11, 3, 2, 0x2A, 0, 0, 0x48]) 10 = true ∧
      viewOf [3, 9, 2, 11, 3, 2, 0x2A, 0, 0, 0x48] 5 ≠ args46.midx) ∧
    (validateResponse (viewOf [3, 9, 2, 12, 3, 1, 0x2A, 0, 0, 0x48]) 10 = true ∧
      viewOf [3, 9, 2, 12, 3, 1, 0x2A, 0, 0, 0x48] 3 ≠ args46.mid) ∧
    (validateResponse (viewOf [3, 9, 2, 11, 4, 1, 0x2A, 0, 0, 0x48]) 10 = true ∧
      viewOf [3, 9, 2, 11, 4, 1, 0x2A, 0, 0, 0x48] 4 ≠ args46.mt) :=
  ⟨exchangeReady_answered _ rfl, by decide, by decide, by decide⟩

/-- The operands of V1. -/
def args55 : XferArgs := ⟨1, 11, 3, 1, List.replicate 48 0, 55, none⟩

/-- InputModuleScenario: V1 and V2, for any response of 55 bytes. -/
theorem witness_scenario (rx : List Byte) (h : rx.length = 55) :
    (List.replicate 44 (0 : Byte)).length = 44 ∧ args55.len = 55 ∧ args55.mid = 11 ∧ args55.mt = 3 ∧ args55.midx = 1 ∧
    (answered rx).env.ready = .asserted :: [] ∧ ExchangeReady (answered rx) args55 rx [] :=
  ⟨List.length_replicate, rfl, rfl, rfl, rfl, rfl, ⟨rfl, rfl⟩, rfl, rfl, rfl,
    ⟨legal_numbers.2.2.2.1, List.length_replicate, rfl, legal_numbers.2.2.2.2.2⟩, rfl, h⟩

/-- The response of V1 has 55 bytes, so `witness_scenario` applies to it. -/
theorem witness_scenario_length (d c : Byte) : ([1, 54, d, 11, 3, 1, 1, 0, 0, 0] ++ List.replicate 44 0 ++ [c]).length = 55 := by
  rw [List.length_append, List.length_append, List.length_replicate]; rfl

/-- ResetPulsesTheLine, ResetFailsAtTheSecondEdge: V80, V82, V83. -/
theorem witness_reset :
    (Ready (unid { noEnv with drive := [.drives, .drives] }) ∧ (unid { noEnv with drive := [.drives, .drives] }).phase = .unidentified ∧
      (unid { noEnv with drive := [.drives, .drives] }).inbox = [] ∧
      (unid { noEnv with drive := [.drives, .drives] }).env.drive = .drives :: .drives :: []) ∧
    Ready { unid { noEnv with drive := [.drives, .drives] } with taint := true } ∧
    (Ready (unid { noEnv with drive := [.drives, .fails] }) ∧
      (unid { noEnv with drive := [.drives, .fails] }).env.drive = .drives :: .fails :: []) := by
  unfold Ready
  decide

/-- BuildStartsWithTheProbe, BuildBinds: a probe of 10 bytes and one configuration frame, acknowledged. -/
theorem witness_build :
    ProbeReady (unid ⟨[.asserted], [.answers rsp10, .answers rxCfg], [], []⟩) ∧
    (LegalLen (unid ⟨[.asserted], [.answers rsp10, .answers rxCfg], [], []⟩) 10 ∧ 9 ≤ (10 : Len).toNat) ∧ [cfg1] ≠ [] ∧
    (∀ f ∈ [cfg1], LegalCfg (unid ⟨[.asserted], [.answers rsp10, .answers rxCfg], [], []⟩) f) ∧
    (unid ⟨[.asserted], [.answers rsp10, .answers rxCfg], [], []⟩).inbox = [] ∧
    (unid ⟨[.asserted], [.answers rsp10, .answers rxCfg], [], []⟩).env.xfer = .answers rsp10 :: ([rxCfg].map XferDraw.answers ++ []) ∧
    rsp10.length = (10 : Len).toNat ∧
    Answered Params.vectors [cfg1] [rxCfg] ∧
    (unid ⟨[.asserted], [.answers rsp10, .answers rxCfg], [], []⟩).env.ready =
      List.replicate ((if Params.vectors.escReadyGate then 1 else 0) + (if cfgGate Params.vectors then [cfg1].length else 0))
        .asserted ++ [] ∧
    cksOk (viewOf rsp10) 10 = true ∧ identOf (viewOf rsp10) = id1 :=
  ⟨⟨⟨rfl, rfl⟩, rfl, rfl⟩, ⟨⟨by decide, by decide⟩, by decide⟩, by decide,
    fun f hf => by
      rw [List.mem_singleton] at hf
      subst hf
      exact ⟨⟨by decide, by decide⟩, by decide, by decide, by decide⟩,
    rfl, rfl, by decide, .cons ⟨by decide, fun _ => by decide⟩ .nil, by decide, by decide, by decide⟩

/-- WrongIdentityIsRefused, ProbeChecksumComesFirst: a mismatch in each of the three bytes (V5), and a bad checksum (V88). -/
theorem witness_probe_response :
    (rspOther.length = (10 : Len).toNat ∧ cksOk (viewOf rspOther) 10 = true ∧ viewOf rspOther 8 ≠ id1.b2) ∧
    (viewOf rsp10 6 ≠ (⟨0x15, 0x0A, 0x01⟩ : Ident).b0 ∧ viewOf rsp10 7 ≠ (⟨0x14, 0x0B, 0x01⟩ : Ident).b1) ∧
    (rspBad.length = (10 : Len).toNat ∧ cksOk (viewOf rspBad) 10 = false) ∧
    ((unid { noEnv with xfer := [.answers rspOther] }).params.escReadyGate = false ∧
      (unid { noEnv with xfer := [.answers rspOther] }).params.probeRxCheck = true ∧
      (unid { noEnv with xfer := [.answers rspOther] }).env.xfer = .answers rspOther :: []) := by decide

/-- The legal states of the witnesses below meet the invariant: what is to be said of each is its sequencer position. -/
theorem inv_of {s : State} (h1 : 7 ≤ s.params.frameCap ∧ s.params.frameCap ≤ 256) (h2 : 1 ≤ s.slot.toNat ∧ s.slot.toNat ≤ 8)
    (h3 : s.txbuf.wf s.params.frameCap = true ∧ s.rxbuf.wf s.params.frameCap = true)
    (h4 : s.phase = .bound ↔ s.ident.valid = true) (h5 : s.phase = .reset ↔ s.seq.op = some .reset) (h6 : s.setup = .ok)
    (h7 : SeqLegal s) : Machine.Inv s :=
  ⟨h1, fun _ => h2, h3.1, h3.2, h4, h5, fun h => absurd h6 h, h7⟩

/-- An idle instance meets the invariant. -/
theorem inv_bound (env : Env) : Machine.Inv (bound env) :=
  inv_of legal_numbers.1 legal_numbers.2.1 ⟨rfl, rfl⟩ ⟨fun _ => rfl, fun _ => rfl⟩ ⟨nofun, nofun⟩ rfl rfl

theorem inv_unid (env : Env) (inbox : List Input) : Machine.Inv (withInbox inbox (unid env)) :=
  inv_of legal_numbers.1 legal_numbers.2.1 ⟨rfl, rfl⟩ ⟨nofun, nofun⟩ ⟨nofun, nofun⟩ rfl rfl

/-- An instance in RESET meets the invariant at each of its steps. -/
theorem inv_inReset (k : Nat) (h1 : 1 ≤ k) (h2 : k ≤ 5) (env : Env) : Machine.Inv (inReset k env) :=
  inv_of legal_numbers.1 legal_numbers.2.1 ⟨rfl, rfl⟩ ⟨nofun, nofun⟩ ⟨fun _ => rfl, fun _ => rfl⟩ rfl ⟨⟨h1, h2, rfl, rfl⟩, rfl⟩

/-- An instance in BUILD meets the invariant at each of its positions. -/
theorem inv_inBuild (q : Machine.Seq) (hq : q.op = some .build) (h : q.building 1) (env : Env) : Machine.Inv (inBuild q env) := by
  refine inv_of legal_numbers.1 legal_numbers.2.1 ⟨rfl, rfl⟩ ⟨nofun, nofun⟩ ⟨nofun, fun h => ?_⟩ rfl ?_
  · rw [show (inBuild q env).seq.op = q.op from rfl, hq] at h; cases h
  · unfold SeqLegal
    rw [show (inBuild q env).seq.op = q.op from rfl, hq]
    exact ⟨h, rfl, rfl, legal_numbers.2.2.1, nofun, fun f hf => by
      rw [show (inBuild q env).operands.cfg = [cfg1] from rfl, List.mem_singleton] at hf
      subst hf
      exact ⟨legal_numbers.2.2.1, rfl, legal_numbers.2.2.2.2.1⟩⟩

/-- BuildEndsBoundOrUnidentified: the last step, and a step that ends it with an error. -/
theorem witness_build_ends :
    (Machine.Inv (inBuild { Seq.start .build 4 with frame := 1 } noEnv) ∧
      ∃ t, advance (inBuild { Seq.start .build 4 with frame := 1 } noEnv) = .next t ∧ t.seq.op = none) ∧
    (Machine.Inv (inBuild (seqBuildProbe 2) { noEnv with xfer := [.fails] }) ∧
      ∃ t, advance (inBuild (seqBuildProbe 2) { noEnv with xfer := [.fails] }) = .next t ∧ t.seq.op = none) :=
  ⟨⟨inv_inBuild _ rfl (.inr (.inr (.inr ⟨rfl, rfl, rfl, rfl⟩))) _, _, rfl, rfl⟩,
    inv_inBuild _ rfl (.inl ⟨rfl, rfl, .inr rfl, rfl⟩) _, _, rfl, rfl⟩

/-- DegradeReturnsToUnidentified, AbandonTaintsTheInstance (V100, V101). -/
theorem witness_degrade_abandon :
    (Ready (bound noEnv) ∧ (bound noEnv).phase = .bound) ∧
    ((withParams coop (inXfer (Seq.start .xchg 2) noEnv)).setup = .ok ∧
      (withParams coop (inXfer (Seq.start .xchg 2) noEnv)).params.sched = .coop ∧
      (withParams coop (inXfer (Seq.start .xchg 2) noEnv)).seq.op = some .xchg) ∧
    ((withParams coop (inReset 2 noEnv)).setup = .ok ∧ (withParams coop (inReset 2 noEnv)).seq.op = some .reset) := by
  unfold Ready
  decide

/-- PresentedFrameIsReceived. -/
theorem witness_presented :
    encode (.frameFromData ⟨3, 9, 11, 1, [0x2A, 0, 0, 0x47]⟩) = .wire rx46 ∧ (bound noEnv).env.xfer = [] ∧
    ∃ t, exec (.frameFromData ⟨3, 9, 11, 1, [0x2A, 0, 0, 0x47]⟩) (bound noEnv) = .next t :=
  ⟨by decide, rfl, _, rfl⟩

/-- ConstructionState: the least and the greatest slot, a slot on either side of them, a lost resource, and a bad slot with a lost
resource. -/
theorem witness_construction :
    (State.construct Params.vectors 3 (some .readyLine) noEnv).setup = .failed (.resource .readyLine) ∧
    (State.construct Params.vectors 9 (some .channel) noEnv).setup = .failed .slotOutOfRange ∧
    (1 ≤ (1 : Byte).toNat ∧ (8 : Byte).toNat ≤ 8) ∧ ¬(1 ≤ (0 : Byte).toNat ∧ (0 : Byte).toNat ≤ 8) ∧
    ¬(1 ≤ (9 : Byte).toNat ∧ (9 : Byte).toNat ≤ 8) := by decide

/-- EveryStepKeepsTheInvariant, ConstructionInputsNeverChange, IdleInstancesAreUsable: a state that meets the invariant and moves. -/
theorem witness_step :
    Machine.Inv (inReset 5 noEnv) ∧ ∃ t, step (inReset 5 noEnv) = .next t ∧ t.setup = .ok ∧ t.seq.op = none :=
  ⟨inv_inReset 5 (by decide) (by decide) _, _, rfl, rfl, rfl⟩

/-- RegisterCodesTellValuesApart: a readable and an unreadable instance. -/
theorem witness_host_reads :
    (withRx rx46 (bound noEnv)).rxbuf = (receive rx46.length rx46 { bound noEnv with fresh := 0 }).rxbuf ∧
    (withRx rx46 (bound noEnv)).seq.op = none ∧ (withRx rx46 (bound noEnv)).status = .ok ∧
    (inXfer (Seq.start .xchg 3) noEnv).seq.op ≠ none := by decide

/-- DecodingFollowsTheTable: a request and a message that match a row, and a message that matches none. -/
theorem witness_rows :
    (tableRow .reset).fits (.request 0x20 Operands.zero) = true ∧
    (tableRow (.frameFromData ⟨0, 0, 0, 0, []⟩)).fits (.wire rx46) = true ∧
    ∀ j, (tableRow j).fits (.wire [0x03#8, 0x06#8, 0x03#8, 0x05#8, 0x04#8, 0x00#8, 0x13#8]) = false :=
  ⟨by decide, by decide, fun j => by cases j <;> rfl⟩

/-- PhaseTransitions: a step that changes the phase, at each of the six places. -/
theorem witness_phase_transitions :
    (∃ t, step (withInbox [.present (.request 0x20 Operands.zero)] (unid noEnv)) = .next t ∧ t.phase ≠ .unidentified) ∧
    (∃ t, step (inReset 5 noEnv) = .next t ∧ t.phase ≠ .reset) ∧
    (∃ t, step (inReset 3 { noEnv with drive := [.fails] }) = .next t ∧ t.phase ≠ .reset) ∧
    (∃ t, step (withInbox [.present (.request 0x23 Operands.zero)] (withParams coop (inReset 2 noEnv))) = .next t ∧
      t.phase ≠ .reset) ∧
    (∃ t, step (inBuild { Seq.start .build 4 with frame := 1 } noEnv) = .next t ∧ t.phase ≠ .unidentified) ∧
    (∃ t, step (withInbox [.present (.request 0x22 Operands.zero)] (bound noEnv)) = .next t ∧ t.phase ≠ .bound) ∧
    Machine.Inv (withInbox [.present (.request 0x20 Operands.zero)] (unid noEnv)) ∧
    Machine.Inv (inReset 3 { noEnv with drive := [.fails] }) :=
  ⟨⟨_, rfl, by decide⟩, ⟨_, rfl, by decide⟩, ⟨_, rfl, by decide⟩, ⟨_, rfl, by decide⟩, ⟨_, rfl, by decide⟩, ⟨_, rfl, by decide⟩,
    inv_unid _ _, inv_inReset 3 (by decide) (by decide) _⟩

/-- TaintTransitions: set by ABANDON, cleared by the last step of RESET. -/
theorem witness_taint :
    (∃ t, step (withInbox [.present (.request 0x23 Operands.zero)] (withParams coop (inReset 2 noEnv))) = .next t ∧
      t.taint ≠ (withParams coop (inReset 2 noEnv)).taint) ∧
    (∃ t, step { inReset 5 noEnv with taint := true } = .next t ∧ t.taint ≠ true) :=
  ⟨⟨_, rfl, by decide⟩, ⟨_, rfl, by decide⟩⟩

/-- FailedInstanceOnlyRefuses: a construction on slot 9, with a request at its port. -/
theorem witness_failed_instance :
    Machine.Inv (withInbox [.present (.request 0x01 Operands.zero)] (State.construct Params.vectors 9 none noEnv)) ∧
    (State.construct Params.vectors 9 none noEnv).setup ≠ .ok ∧
    ∃ t, step (withInbox [.present (.request 0x01 Operands.zero)] (State.construct Params.vectors 9 none noEnv)) = .next t :=
  ⟨⟨by decide, fun h => absurd h (by decide), rfl, rfl, ⟨nofun, nofun⟩, ⟨nofun, nofun⟩, fun _ => ⟨rfl, rfl⟩, rfl⟩, by decide, _, rfl⟩

/-- NoTransferIsRepeated: an exchange that starts. -/
theorem witness_transfers :
    Ready (answered rx46) ∧ (answered rx46).inbox = [] ∧
    ∃ t u, exec (.xchg args46) (answered rx46) = .next t ∧ steps 1 t = .next u :=
  ⟨⟨rfl, rfl⟩, rfl, _, _, rfl, rfl⟩

/-- SchedulingIndependence: one look at the line, asserted. -/
theorem witness_scheduling :
    1 ≤ (answered rx46).env.ready.length ∧ (∀ d ∈ (answered rx46).env.ready.take 1, d ≠ ReadyDraw.deasserted) ∧
    (∀ w, Input.present w ∈ (withInbox [.present (.request 0x14 Operands.zero)] (answered rx46)).inbox →
      decode w ≠ .ok .abandon) ∧
    ∃ t, steps 1 (withSched .sync (withInbox [.present (.request 0x14 Operands.zero)] (answered rx46))) = .next t :=
  ⟨by decide, by decide, fun w hw => by
      rw [show (withInbox [.present (.request 0x14 Operands.zero)] (answered rx46)).inbox =
        [.present (.request 0x14 Operands.zero)] from rfl, List.mem_singleton] at hw
      cases hw
      decide,
    _, rfl⟩

/-- The instance of the witness below: ready once, and answered to its probe and to its one configuration frame. -/
def rebuilt : State := unid ⟨[.asserted], [.answers rsp10, .answers rxCfg], [], []⟩

/-- What a run of some steps leaves. -/
def ran (k : Nat) (s : State) : State :=
  match steps k s with
  | .next t => t
  | .fault _ => s
  | .refused _ => s

/-- DegradeAndRebuild: a BUILD that binds, then DEGRADE. -/
theorem witness_rebuild :
    (rebuilt.inbox = [] ∧ rebuilt.phase = .unidentified ∧ rebuilt.taint = false) ∧
    (ran 9 (after (.build id1 10 [cfg1]) rebuilt)).seq.op = none ∧ (ran 9 (after (.build id1 10 [cfg1]) rebuilt)).phase = .bound ∧
    (after .degrade (ran 9 (after (.build id1 10 [cfg1]) rebuilt))).phase = .unidentified := by decide

end Sys2Proof.Tests
end

/-! PROOFS. The family of 40_codec.md: WRH, the `write_header` of R111. The rules come first: who is admitted, what is wrong with the
operands, what the written header reads as. The obligation is assembled from them. -/

namespace Sys2Proof.Machine

/-! ### Admission of the codec operations -/

/-- Of an operation that every phase admits and that needs no trust in the link, a ready instance looks at the operands alone
(R208, R215). -/
theorem refusal_eq_bad_of_ready {s : State} {op : Op} (bad : Option Reason) (hready : Ready s) (hop : op ≠ .abandon)
    (hphase : phaseAdmits op s.phase = true) (htrust : needsTrust op = false) : refusal s op bad = bad := by
  obtain ⟨hsetup, hidle⟩ := hready
  simp [refusal, hsetup, hop, hidle, hphase, htrust]

/-! ### The operands of WRH (R94, R111) -/

theorem dirLegal_iff (dir : Byte) : dirLegal dir = true ↔ dir = 1 ∨ dir = 2 := by
  rw [dirLegal, Bool.or_eq_true, beq_iff_eq, beq_iff_eq]
  rfl

theorem badHeader_eq_badLength {s : State} {len : Len} (dir mt : Byte) (hlen : ¬LegalLen s len) :
    badHeader s len dir mt = some .badLength := by
  rw [← lenLegal_iff] at hlen
  simp [badHeader, hlen]

theorem badHeader_eq_badDirection {s : State} {len : Len} {dir : Byte} (mt : Byte) (hlen : LegalLen s len)
    (hdir : ¬(dir = 1 ∨ dir = 2)) : badHeader s len dir mt = some .badDirection := by
  rw [← lenLegal_iff] at hlen
  rw [← dirLegal_iff] at hdir
  simp [badHeader, hlen, hdir]

theorem badHeader_eq_badMessageType {s : State} {len : Len} {dir mt : Byte} (hlen : LegalLen s len)
    (hdir : dir = 1 ∨ dir = 2) (hmt : ¬LegalMt mt) : badHeader s len dir mt = some .badMessageType := by
  rw [← lenLegal_iff] at hlen
  rw [← dirLegal_iff] at hdir
  rw [← mtLegal_iff] at hmt
  simp [badHeader, hlen, hdir, hmt]

theorem badHeader_eq_none {s : State} {len : Len} {dir mt : Byte} (hlen : LegalLen s len)
    (hdir : dir = 1 ∨ dir = 2) (hmt : LegalMt mt) : badHeader s len dir mt = none := by
  rw [← lenLegal_iff] at hlen
  rw [← dirLegal_iff] at hdir
  rw [← mtLegal_iff] at hmt
  simp [badHeader, hlen, hdir, hmt]

/-! ### The buffer after `write_header` (R111) -/

section WriteHeader

variable (b : Buf) (slot : Byte) {L : Nat} (dir mid mt midx : Byte)

theorem writeHeader_read_header (hL : 7 ≤ L) {k : Nat} (hk : k < 6) :
    (writeHeader b slot L dir mid mt midx).read k = [slot, BitVec.ofNat 8 (L - 1), dir, mid, mt, midx].getD k 0 := by
  rw [writeHeader_read b slot L dir mid mt midx hL, if_pos hk]
  rfl

theorem writeHeader_read_other (hL : 7 ≤ L) {k : Nat} (hk : 6 ≤ k) (hne : k ≠ L - 1) :
    (writeHeader b slot L dir mid mt midx).read k = b.read k := by
  rw [writeHeader_read b slot L dir mid mt midx hL, if_neg (Nat.not_lt.2 hk), if_neg hne]

/-- The checksum byte is the sum of the bytes that stand before it afterwards: writing it at `L - 1` changes none of them. -/
theorem writeHeader_read_checksum (L : Nat) :
    (writeHeader b slot L dir mid mt midx).read (L - 1) =
      sum8 (slice (writeHeader b slot L dir mid mt midx).read 0 (L - 1)) := by
  have hbefore : ∀ k, k < L - 1 →
      (writeHeaderBytes b slot L dir mid mt midx).read k = (writeHeader b slot L dir mid mt midx).read k :=
    fun k hk => (Buf.read_write_ne _ _ (Nat.ne_of_gt hk)).symm
  calc (writeHeader b slot L dir mid mt midx).read (L - 1)
      = computeChecksum (writeHeaderBytes b slot L dir mid mt midx).read L := Buf.read_write_same _ _ _
    _ = computeChecksum (writeHeader b slot L dir mid mt midx).read L := computeChecksum_congr hbefore

end WriteHeader

/-! ### WRH on a ready instance -/

theorem exec_wrh (len : Len) (dir mid mt midx : Byte) (s : State) :
    exec (.wrh len dir mid mt midx) s = execWrh len dir mid mt midx s := rfl

theorem refusal_wrh {s : State} (bad : Option Reason) (hready : Ready s) : refusal s .wrh bad = bad :=
  refusal_eq_bad_of_ready bad hready nofun rfl rfl

theorem exec_wrh_refused {s : State} {len : Len} {dir mt : Byte} {r : Reason} (mid midx : Byte) (hready : Ready s)
    (hbad : badHeader s len dir mt = some r) :
    exec (.wrh len dir mid mt midx) s = .next (refuse (.op .wrh) r s) := by
  rw [exec_wrh, execWrh, ifAdmitted_refused ((refusal_wrh _ hready).trans hbad)]

theorem exec_wrh_accepted {s : State} {len : Len} {dir mt : Byte} (mid midx : Byte) (hready : Ready s)
    (hbad : badHeader s len dir mt = none) :
    exec (.wrh len dir mid mt midx) s = .next (finishOk .wrh .nothing
      { s with
        operands := { s.operands with len := len, dir := dir, mid := mid, mt := mt, midx := midx }
        txbuf := writeHeader s.txbuf s.slot len.toNat dir mid mt midx }) := by
  rw [exec_wrh, execWrh, ifAdmitted_accepted ((refusal_wrh _ hready).trans hbad)]

/-- Settles O10: the three refusals follow from what is wrong with the operands, and the accepted request from what `write_header` leaves
in `TXBUF`. -/
theorem wrhWritesHeaderAndChecksum : Obligations.WrhWritesHeaderAndChecksum := by
  refine ⟨fun _ => rfl, fun s len dir mid mt midx hready => ⟨fun hlen hdir hmt => ?accepted, fun hlen => ?badLength,
    fun hlen hdir1 hdir2 => ?badDirection, fun hlen hdir hmt => ?badMessageType⟩⟩
  case accepted =>
    refine ⟨_, exec_wrh_accepted mid midx hready (badHeader_eq_none hlen hdir hmt), rfl, ?_, ?_, ?_⟩
    · exact fun k hk => writeHeader_read_header s.txbuf s.slot dir mid mt midx hlen.1 hk
    · exact writeHeader_read_checksum s.txbuf s.slot dir mid mt midx len.toNat
    · exact fun k hk hne => writeHeader_read_other s.txbuf s.slot dir mid mt midx hlen.1 hk hne
  case badLength => exact exec_wrh_refused mid midx hready (badHeader_eq_badLength dir mt hlen)
  case badDirection =>
    exact exec_wrh_refused mid midx hready (badHeader_eq_badDirection mt hlen (not_or.2 ⟨hdir1, hdir2⟩))
  case badMessageType => exact exec_wrh_refused mid midx hready (badHeader_eq_badMessageType hlen hdir hmt)

end Sys2Proof.Machine

/-! PROOFS. The family of 41_transport.md: `Assemble` (R134) and the ready gate in Sync (R131). What a buffer holds is read off its slice
from offset 0, so that the laws of the frame images carry over to `TXBUF`. -/

namespace Sys2Proof.Machine

/-! ### What a buffer holds -/

theorem holds_of_slice_eq {b : Buf} {n : Nat} {bytes : List Byte} (h : slice b.read 0 n = bytes) : Holds b bytes := by
  subst h
  intro k hk
  rw [length_slice, Nat.sub_zero] at hk
  rw [slice_getD _ 0 n k (by omega), Nat.zero_add]

/-! ### Frame assembly (R134) -/

/-- The frame image holds R80's bytes whatever stood in the buffer before (`gen`): the payload fills the gap between the header and the
checksum exactly. -/
theorem frameImage_holds (gen : Nat) (slot : Byte) {L : Nat} (dir mid mt midx : Byte) {payload : List Byte} (hL : 7 ≤ L)
    (hp : payload.length = L - 7) :
    Holds (frameImage gen slot L dir mid mt midx payload) (frameOut slot L dir mid mt midx payload) :=
  holds_of_slice_eq (frameImage_slice gen slot L dir mid mt midx payload hL hp)

/-- The frame of `Assemble`: it touches `TXBUF` and the model's counter of free values only. -/
theorem assemble_frame (L : Nat) (dir mid mt midx : Byte) (payload : List Byte) (s : State) :
    assemble L dir mid mt midx payload s =
      { s with
        txbuf := (assemble L dir mid mt midx payload s).txbuf
        fresh := (assemble L dir mid mt midx payload s).fresh } := rfl

/-- Settles O23: the bytes are those of the frame image, and the rest is the frame of `assemble`. -/
theorem assembledFrameIsOnTxbuf : Obligations.AssembledFrameIsOnTxbuf := by
  intro s L dir mid mt midx payload hL hp
  refine ⟨?holds, assemble_frame L dir mid mt midx payload s⟩
  case holds =>
    rw [assemble_txbuf]
    exact frameImage_holds s.fresh s.slot dir mid mt midx hL hp

/-! ### The ready gate in Sync (R131) -/

/-- Settles O24, draw by draw: only the deasserted line looks at the scheduling mode. -/
theorem syncGateTakesOneSample : Obligations.SyncGateTakesOneSample := by
  intro s rs hsync
  refine ⟨fun hasserted => ?asserted, fun hdeasserted => ?deasserted, fun hfails => ?fails⟩
  case asserted => exact gate_asserted hasserted
  case deasserted => exact gate_deasserted_sync hdeasserted hsync
  case fails => exact gate_fails hfails

end Sys2Proof.Machine

/-! PROOFS. The family of 43_driver_interface.md: the Input-6-Channel scenario of R182. First one rule for each turn of XCHGE (R181), then
the run of an exchange up to the check of its response, then what the checks say of a response given as a list of bytes. The obligation
puts the three frames of the scenario into these. -/

namespace Sys2Proof.Machine

/-! ### Runs -/

theorem steps_succ {s t : State} (k : Nat) (h : step s = .next t) : steps (k + 1) s = steps k t := by
  simp [steps, h]

theorem steps_one {s t : State} (h : step s = .next t) : steps 1 s = .next t := steps_succ 0 h

theorem steps_add {j k : Nat} {s t : State} (h : steps j s = .next t) : steps (j + k) s = steps k t := by
  induction j generalizing s with
  | zero =>
    cases h
    rw [Nat.zero_add]
  | succ j ih =>
    cases hs : step s with
    | next u =>
      rw [Nat.succ_add, steps_succ _ hs]
      exact ih ((steps_succ j hs).symm.trans h)
    | fault _ => simp [steps, hs] at h
    | refused _ => simp [steps, hs] at h

/-! ### The prelude on an asserted ready line (R133) -/

section Prelude

variable {s : State} {rs : List ReadyDraw} (d : Option Duration)

theorem delayIf_env (s : State) : (delayIf d s).env = s.env := by cases d <;> rfl

/-- Where a half of the prelude is the gate, it takes the asserted sample. -/
theorem preludeHalf_gate {second : Bool} (hhalf : second = (s.params.gateOrder == .afterDelay))
    (hready : s.env.ready = .asserted :: rs) :
    preludeHalf true d second s = .passed (emit (.ready .asserted) { s with env := { s.env with ready := rs } }) := by
  rw [← gate_asserted hready, hhalf]
  unfold preludeHalf
  cases s.params.gateOrder <;> rfl

/-- The other half is the turnaround delay. -/
theorem preludeHalf_delay {second : Bool} (hhalf : second = (s.params.gateOrder == .beforeDelay)) :
    preludeHalf true d second s = .passed (delayIf d s) := by
  rw [hhalf]
  unfold preludeHalf
  cases s.params.gateOrder <;> rfl

end Prelude

/-! ### The turns of XCHGE (R181) -/

/-- `SEQ` of XCHGE before its step `k`; `second` says that the first half of the prelude is done. -/
def xchgeSeq (k : Nat) (second : Bool) : Seq := { Seq.start .xchge k with second := second }

/-- An XCHGE with the operands `a` is in progress, its step `k` is next, and no input is to come. -/
structure XchgeAt (k : Nat) (second : Bool) (a : XferArgs) (s : State) : Prop where
  seq : s.seq = xchgeSeq k second
  inbox : s.inbox = []
  operands : s.operands.xferArgs = a

section Turns

variable {k : Nat} {second : Bool} {a : XferArgs} {s : State}

theorem XchgeAt.step_eq (h : XchgeAt k second a s) : step s = xchgeTurn s := by
  have hop : s.seq.op = some .xchge := by rw [h.seq]; rfl
  simp [step, h.inbox, advance, hop]

theorem XchgeAt.seqStep (h : XchgeAt k second a s) : s.seq.step = k := by rw [h.seq]; rfl

theorem XchgeAt.moved {t : State} (h : XchgeAt k second a s) (hm : Moved s t) (j : Nat) (later : Bool) :
    XchgeAt j later a (seqTo (xchgeSeq j later) t) where
  seq := rfl
  inbox := hm.inbox.trans h.inbox
  operands := (congrArg Operands.xferArgs hm.operands).trans h.operands

/-- A half of the prelude that passes leads to the other half, and the second one to the transfer. -/
theorem XchgeAt.step_prelude {t : State} (h : XchgeAt 1 second a s) (hp : preludeHalf true a.delay second s = .passed t) :
    ∃ u, step s = .next u ∧ XchgeAt (if second then 2 else 1) (!second) a u ∧ u.env = t.env ∧ u.params = s.params := by
  have hm : Moved s t := by simpa [hp, Attempt.after] using preludeHalf_moved true a.delay second s
  have hsecond : s.seq.second = second := by rw [h.seq]; rfl
  have hdelay : s.operands.delay = a.delay := congrArg XferArgs.delay h.operands
  refine ⟨_, ?_, h.moved hm _ _, rfl, hm.params⟩
  rw [h.step_eq, xchgeTurn, h.seqStep]
  simp only [preludeTurn, hsecond, hdelay, hp, settle_passed]
  cases second <;> rfl

/-- With the module ready, the prelude passes in two turns, in either order of its halves, and takes no transfer's draw. -/
theorem XchgeAt.steps_prelude {rs : List ReadyDraw} (h : XchgeAt 1 false a s) (hready : s.env.ready = .asserted :: rs) :
    ∃ u, steps 2 s = .next u ∧ XchgeAt 2 false a u ∧ u.env.xfer = s.env.xfer := by
  cases horder : s.params.gateOrder with
  | beforeDelay =>
    obtain ⟨t, hst, hat, htenv, htparams⟩ := h.step_prelude (preludeHalf_gate a.delay (by rw [horder]; rfl) hready)
    obtain ⟨u, htu, hau, huenv, -⟩ := hat.step_prelude (preludeHalf_delay a.delay (by rw [htparams, horder]; rfl))
    refine ⟨u, (steps_succ 1 hst).trans (steps_one htu), hau, ?_⟩
    rw [huenv, delayIf_env, htenv, emit_env]
  | afterDelay =>
    obtain ⟨t, hst, hat, htenv, htparams⟩ := h.step_prelude (preludeHalf_delay a.delay (by rw [horder]; rfl))
    rw [delayIf_env] at htenv
    obtain ⟨u, htu, hau, huenv, -⟩ :=
      hat.step_prelude (preludeHalf_gate a.delay (by rw [htparams, horder]; rfl) (htenv ▸ hready))
    refine ⟨u, (steps_succ 1 hst).trans (steps_one htu), hau, ?_⟩
    rw [huenv, emit_env, htenv]

variable {rx : List Byte}

/-- An answer of the frame's length stands in `RXBUF` after the transfer. -/
theorem XchgeAt.step_xfer {xs : List XferDraw} (h : XchgeAt 2 false a s) (hx : s.env.xfer = .answers rx :: xs)
    (hlen : rx.length = a.len.toNat) :
    ∃ u, step s = .next u ∧ XchgeAt 3 false a u ∧ Holds u.rxbuf rx := by
  have hL : s.operands.len = a.len := congrArg XferArgs.len h.operands
  refine ⟨seqTo (xchgeSeq 3 false) (receive rx.length rx { s with env := { s.env with xfer := xs } }), ?_,
    ⟨rfl, h.inbox, h.operands⟩, ?_⟩
  · rw [h.step_eq, xchgeTurn, h.seqStep]
    simp only [xferTurn, hL, ← hlen, xfer_answers hx, settle_passed]
    rfl
  · rw [seqTo_rxbuf, receive_rxbuf, received_exact]
    exact fun k hk => Buf.read_ofBytes _ _ _ hk

/-- The check of step 3 sees the response that `RXBUF` holds. -/
theorem XchgeAt.responseError_eq (h : XchgeAt k second a s) (hb : Holds s.rxbuf rx) (hlen : rx.length = a.len.toNat)
    (h7 : 7 ≤ a.len.toNat) :
    responseError s.rxbuf.read s.operands.len.toNat = responseError (viewOf rx) a.len.toNat := by
  obtain rfl := h.operands
  exact responseError_congr h7 fun k hk => hb k (hlen ▸ hk)

theorem XchgeAt.step_check_failed {e : Result} (h : XchgeAt 3 false a s)
    (he : responseError s.rxbuf.read s.operands.len.toNat = some e) : step s = .next (raiseScrubbed .xchge e s) := by
  rw [h.step_eq, xchgeTurn, h.seqStep]
  simp only [checkTurn, he]

theorem XchgeAt.step_check_passed (h : XchgeAt 3 false a s)
    (hnone : responseError s.rxbuf.read s.operands.len.toNat = none) : step s = .next (seqTo (xchgeSeq 4 false) s) := by
  rw [h.step_eq, xchgeTurn, h.seqStep]
  simp only [checkTurn, hnone]
  rfl

theorem XchgeAt.step_echo (h : XchgeAt 4 false a s) (hb : Holds s.rxbuf rx) (h7 : 7 ≤ rx.length)
    (hecho : checkEcho (viewOf rx) a.mid a.mt a.midx = true) :
    step s = .next (seqTo (xchgeSeq 5 false) s) := by
  obtain rfl := h.operands
  have hsame : checkEcho s.rxbuf.read s.operands.mid s.operands.mt s.operands.midx = true :=
    (checkEcho_congr fun k hk => hb k (by omega)).trans hecho
  rw [h.step_eq, xchgeTurn, h.seqStep]
  simp only [echoTurn, hsame, if_true]
  rfl

theorem XchgeAt.step_finish (h : XchgeAt 5 false a s) :
    step s = .next (finishOk .xchge (.payload (rxPayload s s.operands.len.toNat)) s) := by
  rw [h.step_eq, xchgeTurn, h.seqStep]
  rfl

end Turns

/-! ### The run of an exchange (R181) -/

section Exchange

variable {s : State} {a : XferArgs} {rx : List Byte} {rs : List ReadyDraw} {xs : List XferDraw}

theorem exec_xchge_accepted (h : ExchangeReady s a rx xs) :
    exec (.xchge a) s = .next (seqTo (xchgeSeq 1 false)
      (assemble a.len.toNat a.dir a.mid a.mt a.midx a.payload { s with operands := s.operands.withXferArgs a })) := by
  obtain ⟨⟨hsetup, hidle⟩, hphase, htaint, -, hlegal, -, -⟩ := h
  have hadmits : refusal s .xchge (badXfer s a) = none :=
    (refusal_none (op := .xchge) nofun).2 ⟨hsetup, hidle, by rw [hphase]; rfl, by rw [htaint]; rfl, (badXfer_none s a).2 hlegal⟩
  exact congrArg Host.Outcome.next (ifAdmitted_accepted hadmits)

/-- Accepted, with a module that is ready and answers, XCHGE comes to its check in three turns with the answer in `RXBUF`. -/
theorem xchge_reaches_check (h : ExchangeReady s a rx xs) (hready : s.env.ready = .asserted :: rs) :
    ∃ t v, exec (.xchge a) s = .next t ∧ steps 3 t = .next v ∧ XchgeAt 3 false a v ∧ Holds v.rxbuf rx := by
  have haccepted := exec_xchge_accepted h
  obtain ⟨-, -, -, hinbox, -, hxfer, hlen⟩ := h
  have hstart : XchgeAt 1 false a (seqTo (xchgeSeq 1 false)
      (assemble a.len.toNat a.dir a.mid a.mt a.midx a.payload { s with operands := s.operands.withXferArgs a })) :=
    ⟨rfl, hinbox, rfl⟩
  obtain ⟨u, hsu, hau, hux⟩ := hstart.steps_prelude hready
  obtain ⟨v, huv, hav, hbv⟩ := hau.step_xfer (hux.trans hxfer) hlen
  exact ⟨_, v, haccepted, (steps_add (k := 1) hsu).trans (steps_one huv), hav, hbv⟩

/-- A response that fails a check ends XCHGE at step 3 with the error of that check. -/
theorem xchge_ends_with_responseError {e : Result} (h : ExchangeReady s a rx xs) (hready : s.env.ready = .asserted :: rs)
    (he : responseError (viewOf rx) a.len.toNat = some e) :
    ∃ t u, exec (.xchge a) s = .next t ∧ steps 4 t = .next u ∧ u.status = e := by
  obtain ⟨t, v, hst, htv, hav, hbv⟩ := xchge_reaches_check h hready
  obtain ⟨-, -, -, -, ⟨hlegal, -⟩, -, hlen⟩ := h
  have hcheck := hav.step_check_failed ((hav.responseError_eq hbv hlen hlegal.1).trans he)
  exact ⟨t, _, hst, (steps_add (k := 1) htv).trans (steps_one hcheck), rfl⟩

/-- A valid response that echoes the request ends XCHGE with Ok and stays in `RXBUF`. -/
theorem xchge_ends_ok (h : ExchangeReady s a rx xs) (hready : s.env.ready = .asserted :: rs)
    (hvalid : validateResponse (viewOf rx) a.len.toNat = true) (hecho : checkEcho (viewOf rx) a.mid a.mt a.midx = true) :
    ∃ t u, exec (.xchge a) s = .next t ∧ steps 6 t = .next u ∧ u.status = .ok ∧ Holds u.rxbuf rx := by
  obtain ⟨t, v, hst, htv, hav, hbv⟩ := xchge_reaches_check h hready
  obtain ⟨-, -, -, -, ⟨hlegal, -⟩, -, hlen⟩ := h
  have hcheck := hav.step_check_passed ((hav.responseError_eq hbv hlen hlegal.1).trans ((responseError_none _ _).2 hvalid))
  have hecho' := (hav.moved (Moved.refl v) 4 false).step_echo hbv (hlen ▸ hlegal.1) hecho
  have hfinish := (hav.moved (Moved.refl v) 5 false).step_finish
  have hrun := calc
    steps 6 t = steps 3 v := steps_add (k := 3) htv
    _ = steps 2 _ := steps_succ 2 hcheck
    _ = steps 1 _ := steps_succ 1 hecho'
    _ = .next _ := steps_one hfinish
  exact ⟨t, _, hst, hrun, rfl, hbv⟩

end Exchange

/-! ### A response given as a list: its bytes before the checksum, then the checksum byte -/

section Response

variable {body : List Byte} {c : Byte} {L : Nat}

theorem cksOk_append_singleton (hL : L = body.length + 1) :
    cksOk (viewOf (body ++ [c])) L = (c == sum8 body) := by
  subst hL
  have hlast : viewOf (body ++ [c]) body.length = c := by simp [viewOf]
  have hbody : slice (viewOf (body ++ [c])) 0 body.length = body :=
    slice_eq_list rfl fun k hk => by rw [Nat.zero_add, viewOf, List.getD_append _ _ _ _ hk]
  rw [cksOk, computeChecksum, offChecksum_eq, Nat.add_sub_cancel, hlast, hbody]

theorem responseError_of_checksum {v : View} (h : cksOk v L = false) : responseError v L = some .checksumIncorrect := by
  simp [responseError, h]

theorem responseError_of_direction {v : View} (hcks : cksOk v L = true) (hlen : lenOk v L = true) (hdir : dirOk v = false) :
    responseError v L = some .unableToSerDe := by
  simp [responseError, hcks, hlen, hdir]

/-- Two sequences that differ in one byte at most have the same checksum only if that byte is the same. -/
theorem sum8_append_cons_inj (before after : List Byte) (x y : Byte) :
    sum8 (before ++ x :: after) = sum8 (before ++ y :: after) ↔ x = y := by simp

theorem le_congr {N : FieldWidth} {v w : View} {off L : Nat} (h : ∀ k, k < L → v k = w k) : le N v off L = le N w off L := by
  unfold le
  split
  case isTrue hin =>
    simp only [fieldInside, offChecksum, Bool.and_eq_true, decide_eq_true_eq] at hin
    rw [slice_congr fun k _ hk => h k (by omega)]
  case isFalse => rfl

end Response

/-! ### The Input-6-Channel frame (R182) -/

/-- The frame of R182 before its checksum byte, with this direction: `channel1` is 1, and the bytes after it are `rest`. -/
def inputModuleBody (slot : Byte) (rest : List Byte) (dir : Byte) : List Byte := [slot, 54, dir, 11, 3, 1, 1, 0, 0, 0] ++ rest

section InputModule

variable {slot dir c : Byte} {rest : List Byte}

theorem inputModuleBody_eq (slot : Byte) (rest : List Byte) (dir : Byte) :
    inputModuleBody slot rest dir = [slot, 54] ++ dir :: ([11, 3, 1, 1, 0, 0, 0] ++ rest) := rfl

theorem length_inputModuleBody (hrest : rest.length = 44) : (inputModuleBody slot rest dir).length = 54 := by
  simp [inputModuleBody, hrest]

/-- The checksum of the frame is right exactly when it is derived from its own bytes. -/
theorem cksOk_inputModule (hrest : rest.length = 44) :
    cksOk (viewOf (inputModuleBody slot rest dir ++ [c])) 55 = (c == sum8 (inputModuleBody slot rest dir)) :=
  cksOk_append_singleton (by rw [length_inputModuleBody hrest])

theorem lenOk_inputModule : lenOk (viewOf (inputModuleBody slot rest dir ++ [c])) 55 = true := rfl

theorem dirOk_inputModule : dirOk (viewOf (inputModuleBody slot rest dir ++ [c])) = (dir == dirFromModule) := rfl

theorem checkEcho_inputModule : checkEcho (viewOf (inputModuleBody slot rest dirFromModule ++ [c])) 11 3 1 = true := rfl

theorem channel1_inputModule : le .w32 (viewOf (inputModuleBody slot rest dir ++ [c])) 6 55 = some 1 := rfl

/-- The checksum that was derived for the direction 2 is stale for the direction 1. -/
theorem sum8_inputModuleBody_ne : sum8 (inputModuleBody slot rest 2) ≠ sum8 (inputModuleBody slot rest 1) := by
  rw [inputModuleBody_eq, inputModuleBody_eq, ne_eq, sum8_append_cons_inj]
  decide

end InputModule

/-- Settles O36: the good frame passes every check of XCHGE; the one with direction 1 passes the checksum and fails at the direction; the
one with the stale checksum fails at the checksum, which comes first. -/
theorem inputModuleScenario : Obligations.InputModuleScenario := by
  intro s a rest slot rs xs hrest hlen hmid hmt hmidx hready
  have hL : a.len.toNat = 55 := by rw [hlen]; rfl
  refine ⟨fun hgood => ?good, fun hdirection => ?direction, fun hstale => ?stale⟩
  case good =>
    have hcks : cksOk (viewOf (inputModuleBody slot rest 2 ++ [sum8 (inputModuleBody slot rest 2)])) 55 = true := by
      rw [cksOk_inputModule hrest, beq_self_eq_true]
    have hvalid : validateResponse (viewOf (inputModuleBody slot rest 2 ++ [sum8 (inputModuleBody slot rest 2)])) a.len.toNat =
        true := by
      rw [hL, validateResponse, hcks, lenOk_inputModule, dirOk_inputModule]
      rfl
    obtain ⟨t, u, hst, htu, hok, hb⟩ := xchge_ends_ok hgood hready hvalid (by rw [hmid, hmt, hmidx]; exact checkEcho_inputModule)
    have hchannel1 : le .w32 u.rxbuf.read 6 55 = some 1 :=
      (le_congr fun k hk => hb k (by simpa [hrest] using hk)).trans channel1_inputModule
    exact ⟨t, u, hst, htu, hok, hchannel1⟩
  case direction =>
    refine xchge_ends_with_responseError hdirection hready ?_
    rw [hL]
    exact responseError_of_direction ((cksOk_inputModule hrest).trans (beq_self_eq_true _)) lenOk_inputModule dirOk_inputModule
  case stale =>
    refine xchge_ends_with_responseError hstale hready ?_
    rw [hL]
    exact responseError_of_checksum ((cksOk_inputModule hrest).trans (beq_false_of_ne sum8_inputModuleBody_ne))

end Sys2Proof.Machine

/-! PROOFS. The family of 60_exceptions.md: the failure of a resource (R201, R210). First what a failed use of a resource leaves, the same
for the three of them; then what `raise` makes of it; then, for each place where the sequencer uses a resource, that its turn raises the
error it was given. The obligation puts the three together, place by place. -/

namespace Sys2Proof.Machine

/-! ### The failed use of a resource (R130) -/

/-- From `s` the use of a resource has come to `u` by failing: the failure is reported, and `Moved` bounds the rest. -/
structure FailedUse (o : Origin) (s u : State) : Prop where
  moved : Moved s u
  trace : u.trace = s.trace ++ [.fail o]

section FailedUse

variable {o : Origin} {s t u : State}

theorem FailedUse.of_report (hm : Moved s t) (ht : t.trace = s.trace) : FailedUse o s (emit (.fail o) t) :=
  ⟨hm.trans (emit_moved _ _), by rw [emit_trace, ht]⟩

theorem FailedUse.scrubRx (h : FailedUse o s u) : FailedUse o s (scrubRx u) :=
  ⟨h.moved.trans (scrubRx_moved u), h.trace⟩

/-- The sample that finds the ready line failing; the gate and RRDY take it alike. -/
theorem drawReady_fails {rs : List ReadyDraw} (h : s.env.ready = .fails :: rs) :
    ∃ t, drawReady s = (.fails, t) ∧ FailedUse .readyLine s (emit (.fail .readyLine) t) := by
  have hm := drawReady_moved s
  rw [drawReady_cons h] at hm
  exact ⟨_, drawReady_cons h, .of_report hm rfl⟩

theorem gate_failedUse {rs : List ReadyDraw} (h : s.env.ready = .fails :: rs) :
    ∃ u, gate s = .failed (.resourceError .readyLine) u ∧ FailedUse .readyLine s u := by
  have hm := gate_moved s
  rw [gate_fails h] at hm
  exact ⟨_, gate_fails h, hm, rfl⟩

theorem xfer_failedUse {xs : List XferDraw} (n : Nat) (h : s.env.xfer = .fails :: xs) :
    ∃ u, xfer n s = .failed (.resourceError .channel) u ∧ FailedUse .channel s u := by
  have hm := drawXfer_moved s
  rw [drawXfer_cons h] at hm
  exact ⟨_, xfer_fails h, (FailedUse.of_report hm rfl).scrubRx⟩

/-- A failing reset line is left in the same state whichever level was to be driven: its level is unknown. -/
theorem driveReset_failedUse {ds : List DriveDraw} (h : s.env.drive = .fails :: ds) :
    ∃ u, (∀ level, driveReset level s = .failed (.resourceError .resetLine) u) ∧ FailedUse .resetLine s u ∧
      u.resetOut = .unknown := by
  have hm := driveReset_moved .low s
  rw [driveReset_fails h] at hm
  exact ⟨_, fun _ => driveReset_fails h, ⟨hm, rfl⟩, rfl⟩

end FailedUse

/-! ### What the raised error leaves (R201, R210) -/

/-- Only an error of RESET or of BUILD changes `PHASE` (R210). -/
theorem phaseAfterError_of_ne {op : Op} (p : Phase) (hreset : op ≠ .reset) (hbuild : op ≠ .build) : phaseAfterError op p = p := by
  unfold phaseAfterError
  split
  · contradiction
  · contradiction
  · rfl

/-- `op` has ended with the failure of a resource, and `PHASE`, `IDENT` and `TAINT` are as R210 leaves them. -/
structure StoppedBy (o : Origin) (op : Op) (s t : State) : Prop where
  failed : FailedWith s t op o
  phase : t.phase = phaseAfterError op s.phase
  ident : t.ident = s.ident
  taint : t.taint = s.taint

section StoppedBy

variable {o : Origin} {op : Op} {s t u : State}

theorem FailedUse.raise (h : FailedUse o s u) (op : Op) : StoppedBy o op s (raise op (.resourceError o) u) where
  failed := ⟨rfl, rfl, by rw [raise_trace, h.trace, List.append_assoc]; rfl⟩
  phase := congrArg (phaseAfterError op) h.moved.phase
  ident := h.moved.ident
  taint := h.moved.taint

theorem FailedUse.raiseScrubbed (h : FailedUse o s u) (op : Op) : StoppedBy o op s (raiseScrubbed op (.resourceError o) u) :=
  h.scrubRx.raise op

theorem StoppedBy.phase_build (h : StoppedBy o op s t) (hop : op = .build) : t.phase = .unidentified := by
  rw [h.phase, hop]
  rfl

theorem StoppedBy.phase_other (h : StoppedBy o op s t) (hreset : op ≠ .reset) (hbuild : op ≠ .build) : t.phase = s.phase :=
  h.phase.trans (phaseAfterError_of_ne _ hreset hbuild)

end StoppedBy

/-! ### The turns that use a resource -/

section Turns

variable {s u : State} {op : Op} {e : Result}

theorem step_eq_advance (h : s.inbox = []) : step s = advance s := by simp [step, h]

theorem pendingXfer_not_reset {n : Nat} (hop : s.seq.op = some op) (hn : pendingXfer s = some n) : op ≠ .reset := by
  rintro rfl
  simp [pendingXfer, hop] at hn

theorem atGate_not_reset (hop : s.seq.op = some op) (hgate : AtGate s) : op ≠ .reset := by
  rintro rfl
  simp [AtGate, hop] at hgate

/-- Where a transfer is next, the turn makes it and raises its error (R135, R136, R137, R161, R181). -/
theorem advance_xfer_failed {n : Nat} (hop : s.seq.op = some op) (hn : pendingXfer s = some n) (hfail : xfer n s = .failed e u) :
    advance s = .next (raise op e u) := by
  unfold pendingXfer at hn
  split at hn
  next hesc hstep =>
    cases hop.symm.trans hesc
    cases hn
    simp [advance, hesc, escTurn, hstep, hfail]
  next hxchg hstep =>
    cases hop.symm.trans hxchg
    cases hn
    simp [advance, hxchg, xchgTurn, hstep, xferTurn, hfail]
  next hwr hstep =>
    cases hop.symm.trans hwr
    cases hn
    simp [advance, hwr, wrTurn, hstep, xferTurn, hfail]
  next hxchge hstep =>
    cases hop.symm.trans hxchge
    cases hn
    simp [advance, hxchge, xchgeTurn, hstep, xferTurn, hfail]
  next hbuild hstep hsub =>
    cases hop.symm.trans hbuild
    cases hn
    simp [advance, hbuild, buildTurn, hstep, buildProbeTurn, hsub, hfail]
  next hbuild hstep hsub =>
    cases hop.symm.trans hbuild
    obtain ⟨f, hf, rfl⟩ := Option.map_eq_some_iff.1 hn
    simp [advance, hbuild, buildTurn, hstep, hf, buildFrameTurn, hsub, hfail]
  next => cases hn

/-- The half of a prelude that is the gate, under either order (R133). -/
theorem preludeHalf_eq_gateIf (gated : Bool) (d : Option Duration) {second : Bool}
    (hhalf : second = (s.params.gateOrder == .afterDelay)) : preludeHalf gated d second s = gateIf gated s := by
  subst hhalf
  unfold preludeHalf
  cases s.params.gateOrder <;> rfl

/-- The prelude of XCHG, WR and XCHGE at its gate raises the gate's error. -/
theorem preludeTurn_gate_failed {gated : Bool} (op : Op) (hhalf : s.seq.second = (s.params.gateOrder == .afterDelay))
    (hgated : gated = true) (hfail : gate s = .failed e u) : preludeTurn op gated s = raise op e u := by
  rw [preludeTurn, preludeHalf_eq_gateIf _ _ hhalf, hgated, gateIf_true, hfail, settle_failed]

/-- Where a ready gate is next, the turn samples the line and raises the gate's error; at a configuration frame of BUILD a transfer has
gone before, and `RXBUF` is unspecified (R32). -/
theorem advance_gate_failed (hop : s.seq.op = some op) (hgate : AtGate s) (hfail : gate s = .failed e u) :
    advance s = .next (raise op e u) ∨ advance s = .next (raiseScrubbed op e u) := by
  rcases hgate with ⟨hesc, hstep, hgated⟩ | ⟨hxchg, hstep, hhalf⟩ | ⟨hwr, hstep, hhalf, hgated⟩ | ⟨hxchge, hstep, hhalf⟩ |
    ⟨hbuild, hstep, hsub, hgated⟩ | ⟨hbuild, hstep, hsub, hframe, hhalf, hgated⟩
  · cases hop.symm.trans hesc
    exact .inl (by simp [advance, hesc, escTurn, hstep, hgated, hfail])
  · cases hop.symm.trans hxchg
    exact .inl (by simp [advance, hxchg, xchgTurn, hstep, preludeTurn_gate_failed .xchg hhalf rfl hfail])
  · cases hop.symm.trans hwr
    exact .inl (by simp [advance, hwr, wrTurn, hstep, preludeTurn_gate_failed .wr hhalf hgated hfail])
  · cases hop.symm.trans hxchge
    exact .inl (by simp [advance, hxchge, xchgeTurn, hstep, preludeTurn_gate_failed .xchge hhalf rfl hfail])
  · cases hop.symm.trans hbuild
    exact .inl (by simp [advance, hbuild, buildTurn, hstep, buildProbeTurn, hsub, hgated, hfail])
  · cases hop.symm.trans hbuild
    refine .inr ?_
    simp [advance, hbuild, buildTurn, hstep, List.getElem?_eq_getElem hframe, buildFrameTurn, hsub,
      preludeHalf_eq_gateIf _ _ hhalf, cfgGated_eq, hgated, hfail]

/-- At either edge of RESET the turn drives the line and raises its error (R160). -/
theorem advance_edge_failed (hop : s.seq.op = some .reset) (hedge : s.seq.step = 1 ∨ s.seq.step = 3)
    (hfail : ∀ level, driveReset level s = .failed e u) : advance s = .next (raise .reset e u) := by
  rcases hedge with hfirst | hsecond
  · simp [advance, hop, resetTurn, hfirst, hfail]
  · simp [advance, hop, resetTurn, hsecond, hfail]

end Turns

/-! ### The requests that use a resource at once (R138, R139) -/

section Requests

variable {s t u : State}

/-- RRDY is admitted in both resting phases, tainted or not. -/
theorem exec_rrdy_failed (hready : Ready s) (hphase : s.phase ≠ .reset) (hdraw : drawReady s = (.fails, t)) :
    exec .rrdy s = .next (raise .rrdy (.resourceError .readyLine) (emit (.fail .readyLine) t)) := by
  obtain ⟨hsetup, hidle⟩ := hready
  have hadmits : phaseAdmits .rrdy s.phase = true := by
    cases hp : s.phase with
    | unidentified => rfl
    | reset => exact absurd hp hphase
    | bound => rfl
  have haccepted : refusal s .rrdy none = none :=
    (refusal_none (op := .rrdy) nofun).2 ⟨hsetup, hidle, hadmits, Bool.and_false _, rfl⟩
  calc exec .rrdy s
      = .next (finishRrdy (drawReady s).1 (drawReady s).2) := congrArg Host.Outcome.next (ifAdmitted_accepted haccepted)
    _ = .next (raise .rrdy (.resourceError .readyLine) (emit (.fail .readyLine) t)) := by rw [hdraw]; rfl

/-- SRST latches its level before it drives the line. -/
theorem exec_srst_failed {level : Level} {e : Result} (hready : ProbeReady s)
    (hfail : driveReset level { s with operands := { s.operands with level := encodeLevel level } } = .failed e u) :
    exec (.srst level) s = .next (raise .srst e u) := by
  obtain ⟨⟨hsetup, hidle⟩, hphase, htaint⟩ := hready
  have haccepted : refusal s .srst none = none :=
    (refusal_none (op := .srst) nofun).2 ⟨hsetup, hidle, by rw [hphase]; rfl, by rw [htaint]; rfl, rfl⟩
  calc exec (.srst level) s
      = .next (settle .srst (finishOk .srst .nothing)
          (driveReset level { s with operands := { s.operands with level := encodeLevel level } })) :=
        congrArg Host.Outcome.next (ifAdmitted_accepted haccepted)
    _ = .next (raise .srst e u) := by rw [hfail, settle_failed]

end Requests

/-- Settles O26, place by place: the use of the resource fails, the place raises its error, and `raise` leaves what R210 says. -/
theorem resourceFailuresEndTheOperation : Obligations.ResourceFailuresEndTheOperation := by
  refine ⟨?transfer, ?gate, ?rrdy, ?srst, ?edges⟩
  case transfer =>
    intro s op n xs hinbox hop hn hfails
    obtain ⟨u, hfail, huse⟩ := xfer_failedUse n hfails
    have hend := huse.raise op
    exact ⟨_, (step_eq_advance hinbox).trans (advance_xfer_failed hop hn hfail), hend.failed, hend.phase_build,
      hend.phase_other (pendingXfer_not_reset hop hn), hend.ident, hend.taint⟩
  case gate =>
    intro s op rs hinbox hop hgate hfails
    obtain ⟨u, hfail, huse⟩ := gate_failedUse hfails
    obtain ⟨t, ht, hend⟩ : ∃ t, advance s = .next t ∧ StoppedBy .readyLine op s t :=
      (advance_gate_failed hop hgate hfail).elim (fun h => ⟨_, h, huse.raise op⟩) (fun h => ⟨_, h, huse.raiseScrubbed op⟩)
    exact ⟨t, (step_eq_advance hinbox).trans ht, hend.failed, hend.phase_build,
      hend.phase_other (atGate_not_reset hop hgate), hend.ident, hend.taint⟩
  case rrdy =>
    intro s rs hready hphase hfails
    obtain ⟨t, hdraw, huse⟩ := drawReady_fails hfails
    have hend := huse.raise .rrdy
    exact ⟨_, exec_rrdy_failed hready hphase hdraw, hend.failed, hend.phase, hend.ident, hend.taint⟩
  case srst =>
    intro s level ds hready hfails
    obtain ⟨u, hfail, huse, hout⟩ :=
      driveReset_failedUse (s := { s with operands := { s.operands with level := encodeLevel level } }) hfails
    have hend := huse.raise .srst
    exact ⟨_, exec_srst_failed hready (hfail level), hend.failed, hend.phase, hend.ident, hend.taint, hout⟩
  case edges =>
    intro s ds hinbox hop hedge hfails
    obtain ⟨u, hfail, huse, hout⟩ := driveReset_failedUse hfails
    have hend := huse.raise .reset
    exact ⟨_, (step_eq_advance hinbox).trans (advance_edge_failed hop hedge hfail), hend.failed, hend.phase, hend.ident,
      hend.taint, hout⟩

end Sys2Proof.Machine

/-! PROOFS. The encoding of 30_encoding.md. First what the decoder reads from the bytes the encoder writes, then what it can have read
where it gives an instruction; both directions and the opcode table are put together from these. -/

namespace Sys2Proof.Machine

open Sys2Proof.Laws

/-! ### From an instruction to its word and back (R92, R97) -/

theorem wireLenOk_iff (n : Nat) : wireLenOk n = true ↔ 7 ≤ n ∧ n ≤ 256 := by simp [wireLenOk]

/-- No frame is taken for a probe: its direction byte is not 19 (R93). -/
theorem decode_frameBytes {dir : Byte} (mt : Byte) {f : FrameArgs} (hwf : f.wf = true) (hdir : dir ≠ probeCmd) :
    decode (.wire (frameBytes dir mt f)) = decodeFrame dir mt f := by
  obtain ⟨hmin, hmax⟩ := (wireLenOk_iff _).1 hwf
  rw [decode, frameBytes_eq, decodeWire_cons, if_neg (show ¬_ < 7 by omega), if_neg (show ¬256 < _ by omega),
    if_neg fun h => hdir h.2]

/-- The decoder on a probe's bytes, whatever follows the three command bytes (R89, R93). -/
theorem decode_probeBytes {p : ProbeArgs} (hwf : p.wf = true) : decode (.wire (probeBytes p)) = .ok (.probe p) := by
  obtain ⟨hmin, hmax⟩ := (wireLenOk_iff _).1 hwf
  have hlen : (probeBytes p).length = 3 + p.tail.length := by simp [probeBytes_eq]; omega
  rw [decode, decodeWire, if_neg (show ¬_ < 7 by omega), if_neg (show ¬256 < _ by omega), if_pos ⟨rfl, rfl⟩]
  rfl

/-- Settles O1. A request's code selects its own constructor, and the two one-bit operands decode to what they encode; a frame's direction
and message type select its row. -/
theorem decodeEncodeAgree : Obligations.DecodeEncodeAgree := by
  intro i hwf
  cases i with
  | chk buf len => cases buf <;> rfl
  | val buf len => cases buf <;> rfl
  | echo buf mid mt midx => cases buf <;> rfl
  | srst level => cases level <;> rfl
  | wrh | esc | xchg | wr | rrdy | xchge | reset | build | degrade | abandon => rfl
  | frameToModuleid f => exact decode_frameBytes mtModuleId hwf (by decide)
  | frameToConfiguration f => exact decode_frameBytes mtConfiguration hwf (by decide)
  | frameToData f => exact decode_frameBytes mtData hwf (by decide)
  | frameToFeedback f => exact decode_frameBytes mtFeedback hwf (by decide)
  | frameFromModuleid f => exact decode_frameBytes mtModuleId hwf (by decide)
  | frameFromConfiguration f => exact decode_frameBytes mtConfiguration hwf (by decide)
  | frameFromData f => exact decode_frameBytes mtData hwf (by decide)
  | frameFromFeedback f => exact decode_frameBytes mtFeedback hwf (by decide)
  | probe p => exact decode_probeBytes hwf

/-! ### From the bytes of the wire to an instruction and back -/

/-- A message of at least six bytes, its header bytes named. -/
theorem exists_header {bytes : List Byte} (h : 6 ≤ bytes.length) :
    ∃ b0 b1 b2 b3 b4 b5 tail, bytes = b0 :: b1 :: b2 :: b3 :: b4 :: b5 :: tail := by
  match bytes, h with
  | b0 :: b1 :: b2 :: b3 :: b4 :: b5 :: tail, _ => exact ⟨b0, b1, b2, b3, b4, b5, tail, rfl⟩

/-- What the rows of R97 make of a frame: an instruction that encodes to the same bytes, or one of the two reserved bytes is named. -/
theorem decodeFrame_cases (dir mt : Byte) (f : FrameArgs) :
    (∃ i, decodeFrame dir mt f = .ok i ∧ encode i = .wire (frameBytes dir mt f) ∧ WellFormed i = f.wf) ∨
    decodeFrame dir mt f = .error (.reservedDirection dir) ∨ decodeFrame dir mt f = .error (.reservedMessageType mt) := by
  unfold decodeFrame
  split
  next hdir =>
    subst hdir
    split_ifs with h1 h2 h3 h4
    · exact .inl ⟨_, rfl, by rw [h1]; rfl, rfl⟩
    · exact .inl ⟨_, rfl, by rw [h2]; rfl, rfl⟩
    · exact .inl ⟨_, rfl, by rw [h3]; rfl, rfl⟩
    · exact .inl ⟨_, rfl, by rw [h4]; rfl, rfl⟩
    · exact .inr (.inr rfl)
  next =>
    split
    next hdir =>
      subst hdir
      split_ifs with h1 h2 h3 h4
      · exact .inl ⟨_, rfl, by rw [h1]; rfl, rfl⟩
      · exact .inl ⟨_, rfl, by rw [h2]; rfl, rfl⟩
      · exact .inl ⟨_, rfl, by rw [h3]; rfl, rfl⟩
      · exact .inl ⟨_, rfl, by rw [h4]; rfl, rfl⟩
      · exact .inr (.inr rfl)
    next => exact .inr (.inl rfl)

/-- A message of legal length is a probe or is read as a frame. -/
theorem decode_wire_cons (b0 b1 b2 b3 b4 b5 : Byte) {tail : List Byte} (hmin : 7 ≤ tail.length + 6)
    (hmax : tail.length + 6 ≤ 256) :
    decode (.wire (b0 :: b1 :: b2 :: b3 :: b4 :: b5 :: tail)) =
      if b0 = probeCmd ∧ b2 = probeCmd then .ok (.probe ⟨b1, b3 :: b4 :: b5 :: tail⟩)
      else decodeFrame b2 b4 ⟨b0, b1, b3, b5, tail⟩ := by
  rw [decode, decodeWire_cons, if_neg (show ¬_ < 7 by omega), if_neg (show ¬256 < _ by omega)]

/-- Bytes that decode have a legal number (R8). -/
theorem length_of_decode_wire {bytes : List Byte} {i : Instr} (h : decode (.wire bytes) = .ok i) :
    7 ≤ bytes.length ∧ bytes.length ≤ 256 := by
  rw [decode, decodeWire] at h
  split at h
  · cases h
  next hmin =>
    split at h
    · cases h
    next hmax => exact ⟨Nat.le_of_not_lt hmin, Nat.le_of_not_lt hmax⟩

/-- Settles O2: a probe and a frame are each read off all their bytes, so nothing of the message is lost. -/
theorem encodeDecodeAgreeOnTheWire : Obligations.EncodeDecodeAgreeOnTheWire := by
  intro bytes i hdec
  obtain ⟨hmin, hmax⟩ := length_of_decode_wire hdec
  obtain ⟨b0, b1, b2, b3, b4, b5, tail, rfl⟩ := exists_header (bytes := bytes) (by omega)
  rw [decode_wire_cons b0 b1 b2 b3 b4 b5 hmin hmax] at hdec
  simp only [List.length_cons] at hmin hmax
  split at hdec
  next hprobe =>
    obtain ⟨rfl, rfl⟩ := hprobe
    cases hdec
    exact ⟨rfl, (wireLenOk_iff _).2 (by simp only [List.length_cons]; omega)⟩
  next =>
    rcases decodeFrame_cases b2 b4 ⟨b0, b1, b3, b5, tail⟩ with ⟨j, hj, henc, hwf⟩ | herr | herr
    · cases hj.symm.trans hdec
      exact ⟨henc, hwf.trans ((wireLenOk_iff _).2 (by dsimp only; omega))⟩
    · cases herr.symm.trans hdec
    · cases herr.symm.trans hdec

/-! ### Frames and probes the MCC builds -/

theorem probeOut_eq_probeBytes (P : Nat) (c : Bool) :
    probeOut P c = probeBytes ⟨BitVec.ofNat 8 (P - 1), (probeOut P c).drop 3⟩ := rfl

/-- Settles O5: what the MCC builds has a legal length, and its direction is ToModule. -/
theorem transmittedFramesAreTableRows : Obligations.TransmittedFramesAreTableRows := by
  refine ⟨fun slot mid mt midx L payload hmin hmax hpayload => ?frames, fun P c hmin hmax => ?probe⟩
  case frames =>
    have hdec := decode_frameBytes (dir := dirToModule) mt (f := ⟨slot, BitVec.ofNat 8 (L - 1), mid, midx,
      payload ++ [sum8 ([slot, BitVec.ofNat 8 (L - 1), 1, mid, mt, midx] ++ payload)]⟩)
      ((wireLenOk_iff _).2 (by simp only [List.length_append, List.length_singleton]; omega)) (by decide)
    refine ⟨?_, ?_, ?_, ?_⟩
    all_goals
      rintro rfl
      exact hdec
  case probe =>
    rw [probeOut_eq_probeBytes]
    refine decode_probeBytes ?_
    have hlen := length_probeOut P c hmin
    exact (wireLenOk_iff _).2 (by rw [List.length_drop]; omega)

/-! ### Command codes -/

/-- The fourteen command codes of R92. -/
def commandCodes : List Byte :=
  [0x01#8, 0x02#8, 0x03#8, 0x04#8, 0x10#8, 0x11#8, 0x12#8, 0x13#8, 0x14#8, 0x15#8, 0x20#8, 0x21#8, 0x22#8, 0x23#8]

theorem decode_unknownCommand {cmd : Byte} (ops : Operands) (h : cmd ∉ commandCodes) :
    decode (.request cmd ops) = .error (.unknownCommand cmd) := by
  simp only [commandCodes, List.mem_cons, List.not_mem_nil, or_false, not_or] at h
  simp [decode, decodeRequest, h]

/-- A request that decodes has the code of its instruction's row. -/
theorem tableRow_of_decode_request {cmd : Byte} {ops : Operands} {i : Instr} (h : decode (.request cmd ops) = .ok i) :
    tableRow i = .cmd cmd 0xFF := by
  have hcmd : cmd ∈ commandCodes := by
    by_contra hcmd
    cases (decode_unknownCommand ops hcmd).symm.trans h
  simp only [commandCodes, List.mem_cons, List.not_mem_nil, or_false] at hcmd
  rcases hcmd with rfl | rfl | rfl | rfl | rfl | rfl | rfl | rfl | rfl | rfl | rfl | rfl | rfl | rfl
  all_goals
    cases h
    rfl

/-- Every code of the table decodes, whatever the operand registers hold. -/
theorem decode_request_of_fits {cmd : Byte} (ops : Operands) {j : Instr} (h : (tableRow j).fits (.request cmd ops) = true) :
    ∃ i, decode (.request cmd ops) = .ok i ∧ tableRow i = tableRow j := by
  cases j with
  | chk | wrh | val | echo | esc | xchg | wr | srst | rrdy | xchge | reset | build | degrade | abandon =>
    obtain rfl := (cmdRow_fits _ _ _).1 h
    exact ⟨_, rfl, rfl⟩
  | frameToModuleid | frameToConfiguration | frameToData | frameToFeedback | frameFromModuleid | frameFromConfiguration
  | frameFromData | frameFromFeedback | probe => cases h

/-- Settles O4: each code is looked up, and a code outside the list falls through the whole table. -/
theorem fourteenCommandCodes : Obligations.FourteenCommandCodes := by
  intro ops
  refine ⟨rfl, rfl, rfl, rfl, rfl, rfl, rfl, rfl, rfl, rfl, rfl, rfl, rfl, rfl, fun cmd => ⟨?_, ?_⟩⟩
  · rintro ⟨i, hi⟩
    by_contra hcmd
    cases (decode_unknownCommand ops hcmd).symm.trans hi
  · intro hcmd
    simp only [List.mem_cons, List.not_mem_nil, or_false] at hcmd
    rcases hcmd with rfl | rfl | rfl | rfl | rfl | rfl | rfl | rfl | rfl | rfl | rfl | rfl | rfl | rfl
    all_goals exact ⟨_, rfl⟩

/-- Settles O3, word by word. -/
theorem tableWordsDecode : Obligations.TableWordsDecode := by
  refine ⟨rfl, rfl, rfl, rfl, rfl, rfl, rfl, ?_⟩
  decide

/-! ### The opcode table (R97) -/

theorem fits_encode (i : Instr) : (tableRow i).fits (encode i) = true := by
  cases i with
  | chk buf len => exact RowMatch.chk buf len
  | wrh len dir mid mt midx => exact RowMatch.wrh len dir mid mt midx
  | val buf len => exact RowMatch.val buf len
  | echo buf mid mt midx => exact RowMatch.echo buf mid mt midx
  | esc p => exact RowMatch.esc p
  | xchg a => exact RowMatch.xchg a
  | wr a => exact RowMatch.wr a
  | srst l => exact RowMatch.srst l
  | rrdy => exact RowMatch.rrdy
  | xchge a => exact RowMatch.xchge a
  | reset => exact RowMatch.reset
  | build idexp p cfg => exact RowMatch.build idexp p cfg
  | degrade => exact RowMatch.degrade
  | abandon => exact RowMatch.abandon
  | frameToModuleid f => exact RowMatch.frameToModuleid f
  | frameToConfiguration f => exact RowMatch.frameToConfiguration f
  | frameToData f => exact RowMatch.frameToData f
  | frameToFeedback f => exact RowMatch.frameToFeedback f
  | frameFromModuleid f => exact RowMatch.frameFromModuleid f
  | frameFromConfiguration f => exact RowMatch.frameFromConfiguration f
  | frameFromData f => exact RowMatch.frameFromData f
  | frameFromFeedback f => exact RowMatch.frameFromFeedback f
  | probe p => exact RowMatch.probe p

theorem fits_of_decode {w : PortWord} {i : Instr} (h : decode w = .ok i) : (tableRow i).fits w = true := by
  cases w with
  | request cmd ops =>
    rw [tableRow_of_decode_request h]
    exact (cmdRow_fits _ _ _).2 rfl
  | wire bytes =>
    rw [← (encodeDecodeAgreeOnTheWire bytes i h).1]
    exact fits_encode i

/-- A message that matches a FRAME row decodes to the instruction `mk` of that row: its direction is not the probe's 19. -/
theorem decode_of_frameRow {dir mt : Byte} {digits : Nat} (mk : FrameArgs → Instr)
    (hdigits : bytesOfDigits rowBytes digits = [0, 0, dir, 0, mt, 0]) (hdir : dir ≠ probeCmd)
    (hdec : ∀ f, decodeFrame dir mt f = .ok (mk f)) (hrow : ∀ f, tableRow (mk f) = .wire digits frameMask) {bytes : List Byte}
    (hmin : 7 ≤ bytes.length) (hmax : bytes.length ≤ 256)
    (h : (TableRow.wire digits frameMask).fits (.wire bytes) = true) :
    ∃ i, decode (.wire bytes) = .ok i ∧ tableRow i = .wire digits frameMask := by
  obtain ⟨b0, b1, b2, b3, b4, b5, tail, rfl⟩ := exists_header (bytes := bytes) (by omega)
  obtain ⟨rfl, rfl⟩ := (frameRow_fits hdigits _ _ _ _ _ _ _).1 h
  rw [decode_wire_cons b0 b1 b2 b3 b4 b5 hmin hmax, if_neg fun hprobe => hdir hprobe.2]
  exact ⟨_, hdec _, hrow _⟩

/-- Every message of legal length that matches a row of the wire decodes to that row. -/
theorem decode_wire_of_fits {bytes : List Byte} {j : Instr} (hmin : 7 ≤ bytes.length) (hmax : bytes.length ≤ 256)
    (h : (tableRow j).fits (.wire bytes) = true) : ∃ i, decode (.wire bytes) = .ok i ∧ tableRow i = tableRow j := by
  cases j with
  | chk | wrh | val | echo | esc | xchg | wr | srst | rrdy | xchge | reset | build | degrade | abandon => cases h
  | frameToModuleid =>
    exact decode_of_frameRow (dir := 1) (mt := 1) .frameToModuleid (by decide) (by decide) (fun _ => rfl) (fun _ => rfl) hmin hmax h
  | frameToConfiguration =>
    exact decode_of_frameRow (dir := 1) (mt := 2) .frameToConfiguration (by decide) (by decide) (fun _ => rfl) (fun _ => rfl) hmin hmax h
  | frameToData =>
    exact decode_of_frameRow (dir := 1) (mt := 3) .frameToData (by decide) (by decide) (fun _ => rfl) (fun _ => rfl) hmin hmax h
  | frameToFeedback =>
    exact decode_of_frameRow (dir := 1) (mt := 4) .frameToFeedback (by decide) (by decide) (fun _ => rfl) (fun _ => rfl) hmin hmax h
  | frameFromModuleid =>
    exact decode_of_frameRow (dir := 2) (mt := 1) .frameFromModuleid (by decide) (by decide) (fun _ => rfl) (fun _ => rfl) hmin hmax h
  | frameFromConfiguration =>
    exact decode_of_frameRow (dir := 2) (mt := 2) .frameFromConfiguration (by decide) (by decide) (fun _ => rfl) (fun _ => rfl) hmin hmax h
  | frameFromData =>
    exact decode_of_frameRow (dir := 2) (mt := 3) .frameFromData (by decide) (by decide) (fun _ => rfl) (fun _ => rfl) hmin hmax h
  | frameFromFeedback =>
    exact decode_of_frameRow (dir := 2) (mt := 4) .frameFromFeedback (by decide) (by decide) (fun _ => rfl) (fun _ => rfl) hmin hmax h
  | probe =>
    obtain ⟨b0, b1, b2, b3, b4, b5, tail, rfl⟩ := exists_header (bytes := bytes) (by omega)
    rw [decode_wire_cons b0 b1 b2 b3 b4 b5 hmin hmax, if_pos ((probeRow_fits _ _ _ _).1 h)]
    exact ⟨_, rfl, rfl⟩

/-- Settles O60. A message of no row cannot decode, since what decodes matches its row; so one of the two reserved bytes is left. -/
theorem decodingFollowsTheTable : Obligations.DecodingFollowsTheTable := by
  refine ⟨fun w i => fits_of_decode, fun cmd ops j => decode_request_of_fits ops, fun bytes j => decode_wire_of_fits,
    fun bytes hmin hmax hnone => ?noRow⟩
  case noRow =>
    obtain ⟨b0, b1, b2, b3, b4, b5, tail, rfl⟩ := exists_header (bytes := bytes) (by omega)
    have hprobe : ¬(b0 = probeCmd ∧ b2 = probeCmd) := fun h =>
      Bool.noConfusion ((hnone (.probe ⟨b1, []⟩)).symm.trans ((probeRow_fits b0 b1 b2 (b3 :: b4 :: b5 :: tail)).2 h))
    have hdec := decode_wire_cons b0 b1 b2 b3 b4 b5 hmin hmax
    rw [if_neg hprobe] at hdec
    rcases decodeFrame_cases b2 b4 ⟨b0, b1, b3, b5, tail⟩ with ⟨i, hi, -⟩ | herr | herr
    · exact Bool.noConfusion ((hnone i).symm.trans (fits_of_decode (hdec.trans hi)))
    · exact .inl (hdec.trans herr)
    · exact .inr (hdec.trans herr)

end Sys2Proof.Machine

/-! PROOFS. One step of the machine, and the requests that are refused. First what a step does with each external input and what `exec` does
with a refused request, once for all constructors; then which reason `refusal` gives; the obligations about refusals read it off. -/

namespace Sys2Proof.Machine

open Host (Outcome)

/-! ### The external inputs (R28, log entry 4) -/

section Inputs

variable {s : State} {rest : List Input}

theorem step_pause (h : s.inbox = .pause :: rest) : step s = advance { s with inbox := rest } := by simp [step, h]

theorem step_await_idle (h : s.inbox = .await :: rest) (hidle : s.seq.op = none) : step s = .next { s with inbox := rest } := by
  simp [step, h, hidle]

theorem step_await_busy {op : Op} (h : s.inbox = .await :: rest) (hop : s.seq.op = some op) : step s = advance s := by
  simp [step, h, hop]

theorem step_present {w : PortWord} (h : s.inbox = .present w :: rest) : step s = runWord w { s with inbox := rest } := by
  simp [step, h]

theorem advance_idle (hidle : s.seq.op = none) : advance s = .next s := by simp [advance, hidle]

theorem runWord_ok {w : PortWord} {i : Instr} (h : decode w = .ok i) : runWord w s = exec i s := by simp [runWord, h]

theorem runWord_error {w : PortWord} {e : Reject} (h : decode w = .error e) : runWord w s = .next (rejectWord w s) := by
  simp [runWord, h]

end Inputs

/-- Settles O6. -/
theorem stepRunsTheDecodedInstruction : Obligations.StepRunsTheDecodedInstruction :=
  fun _ _ _ _ hinbox hdec => (step_present hinbox).trans (runWord_ok hdec)

/-- Settles O8, input by input. -/
theorem turnsOfTheSequencer : Obligations.TurnsOfTheSequencer := by
  intro s rest
  refine ⟨step_eq_advance, step_pause, step_await_idle, fun hinbox hbusy => ?await,
    fun hinbox hidle => (step_eq_advance hinbox).trans (advance_idle hidle)⟩
  case await =>
    obtain ⟨op, hop⟩ := Option.ne_none_iff_exists'.1 hbusy
    exact step_await_busy hinbox hop

/-- Settles O7: the code is in no row, so the request is refused with the reason of `refusalUnknown`. -/
theorem wordsOfNoRow : Obligations.WordsOfNoRow := by
  refine fun s rest => ⟨fun cmd ops hinbox hcmd => ?request, fun bytes hinbox hnone => ?wire⟩
  case request =>
    have hstep : step s = .next (refuse (.unknown cmd) (refusalUnknown s) { s with inbox := rest }) :=
      (step_present hinbox).trans (runWord_error (decode_unknownCommand ops hcmd))
    refine ⟨refusalUnknown s, hstep, fun hsetup => ?_, fun hsetup hbusy => ?_, fun hready => ?_⟩
    · rw [refusalUnknown, if_pos hsetup]
    · rw [refusalUnknown, if_neg (not_not.2 hsetup), if_pos hbusy]
    · rw [refusalUnknown, if_neg (not_not.2 hready.1), if_neg (not_not.2 hready.2)]
  case wire =>
    rw [step_present hinbox]
    cases hdec : decode (.wire bytes) with
    | ok i => exact absurd hdec (hnone i)
    | error e => exact runWord_error hdec

/-! ### What `exec` makes of an instruction, by the kind of its row -/

/-- A request that is refused changes what `refuse` changes, whatever its constructor (R208). -/
theorem exec_refused {i : Instr} {s : State} {op : Op} {r : Reason} (hop : opOf i = some op)
    (h : refusal s op (operandRefusal s i) = some r) : exec i s = .next (refuse (.op op) r s) := by
  cases i with
  | chk | wrh | val | echo | esc | xchg | wr | srst | rrdy | xchge | reset | build | degrade | abandon =>
    cases hop
    exact congrArg Outcome.next (ifAdmitted_refused h)
  | frameToModuleid | frameToConfiguration | frameToData | frameToFeedback | frameFromModuleid | frameFromConfiguration
  | frameFromData | frameFromFeedback | probe => cases hop

/-- A FRAME or PROBE row is the bytes of its encoding presented on the link (log entry 3). -/
theorem exec_wire {i : Instr} {bytes : List Byte} (s : State) (h : encode i = .wire bytes) :
    exec i s = .next (presentOnLink bytes s) := by
  cases i with
  | chk | wrh | val | echo | esc | xchg | wr | srst | rrdy | xchge | reset | build | degrade | abandon => cases h
  | frameToModuleid | frameToConfiguration | frameToData | frameToFeedback | frameFromModuleid | frameFromConfiguration
  | frameFromData | frameFromFeedback | probe =>
    cases h
    rfl

/-! ### The reasons of a refusal, in the order of R208 -/

section Reasons

variable {s : State} {op : Op} (bad : Option Reason)

theorem refusal_setupFailed (h : s.setup ≠ .ok) : refusal s op bad = some .setupFailed := by simp [refusal, h]

theorem refusal_busy (hsetup : s.setup = .ok) (hop : op ≠ .abandon) (hbusy : s.seq.op ≠ none) :
    refusal s op bad = some .busy := by simp [refusal, hsetup, hop, hbusy]

theorem refusal_wrongPhase (hready : Ready s) (hop : op ≠ .abandon) (hphase : phaseAdmits op s.phase = false) :
    refusal s op bad = some .wrongPhase := by
  obtain ⟨hsetup, hidle⟩ := hready
  simp [refusal, hsetup, hop, hidle, hphase]

theorem refusal_tainted (hready : Ready s) (hop : op ≠ .abandon) (hphase : phaseAdmits op s.phase = true)
    (htaint : s.taint = true) (htrust : needsTrust op = true) : refusal s op bad = some .tainted := by
  obtain ⟨hsetup, hidle⟩ := hready
  simp [refusal, hsetup, hop, hidle, hphase, htaint, htrust]

/-- An operation that its phase admits, on a link that is trusted where it needs to be, is refused for its operands alone. -/
theorem refusal_operands (hready : Ready s) (hop : op ≠ .abandon) (hphase : phaseAdmits op s.phase = true)
    (htaint : s.taint = false ∨ needsTrust op = false) : refusal s op bad = bad := by
  obtain ⟨hsetup, hidle⟩ := hready
  have htrusted : (s.taint && needsTrust op) = false := by rcases htaint with h | h <;> simp [h]
  simp [refusal, hsetup, hop, hidle, hphase, htrusted]

theorem refusal_nothingToAbandon (hsetup : s.setup = .ok) (h : s.params.sched = .sync ∨ s.seq.op = none) :
    refusal s .abandon bad = some .nothingToAbandon := by
  have hno : ¬(s.params.sched = .coop ∧ s.seq.op ≠ none) := by
    rintro ⟨hcoop, hbusy⟩
    rcases h with hsync | hidle
    · cases hsync.symm.trans hcoop
    · exact hbusy hidle
  rw [refusal, if_neg (not_not.2 hsetup), if_pos rfl, if_neg hno]

end Reasons

/-- Settles O17. -/
theorem refusalChangesStatusOnly : Obligations.RefusalChangesStatusOnly := fun _ _ _ _ hop h => exec_refused hop h

/-- Settles O18: SetupFailed is the first reason looked at. -/
theorem failedSetupRefusesEveryRequest : Obligations.FailedSetupRefusesEveryRequest :=
  fun _ _ _ hop hsetup => exec_refused hop (refusal_setupFailed _ hsetup)

/-- Settles O19: Busy is the next reason, and ABANDON alone goes around it. -/
theorem busyRefusesEveryRequestButAbandon : Obligations.BusyRefusesEveryRequestButAbandon :=
  fun _ _ _ hop habandon hsetup hbusy => exec_refused hop (refusal_busy _ hsetup habandon hbusy)

/-- Settles O21. -/
theorem nothingToAbandon : Obligations.NothingToAbandon :=
  fun _ hsetup h => exec_refused (i := .abandon) rfl (refusal_nothingToAbandon _ hsetup h)

/-- Settles O20: for the operations of each row of the table, what the two columns of R215 say of them. -/
theorem phaseAndTaintTable : Obligations.PhaseAndTaintTable := by
  intro i s op hop hready
  refine ⟨fun hbound hmem => ?notBound, fun hunid hmem => ?notUnidentified, fun hunid htaint hmem => ?taintedProbe,
    fun hbound htaint hmem => ?taintedExchange, fun hrest hmem => ?operandsOnly⟩
  case notBound =>
    have hrow : ∀ o ∈ [Op.esc, .srst, .reset, .build], o ≠ .abandon ∧ phaseAdmits o .bound = false := by decide
    obtain ⟨hne, hphase⟩ := hrow op hmem
    exact exec_refused hop (refusal_wrongPhase _ hready hne (hbound ▸ hphase))
  case notUnidentified =>
    have hrow : ∀ o ∈ [Op.xchg, .wr, .xchge, .degrade], o ≠ .abandon ∧ phaseAdmits o .unidentified = false := by decide
    obtain ⟨hne, hphase⟩ := hrow op hmem
    exact exec_refused hop (refusal_wrongPhase _ hready hne (hunid ▸ hphase))
  case taintedProbe =>
    have hrow : ∀ o ∈ [Op.esc, .srst, .build], o ≠ .abandon ∧ phaseAdmits o .unidentified = true ∧ needsTrust o = true := by
      decide
    obtain ⟨hne, hphase, htrust⟩ := hrow op hmem
    exact exec_refused hop (refusal_tainted _ hready hne (hunid ▸ hphase) htaint htrust)
  case taintedExchange =>
    have hrow : ∀ o ∈ [Op.xchg, .wr, .xchge], o ≠ .abandon ∧ phaseAdmits o .bound = true ∧ needsTrust o = true := by decide
    obtain ⟨hne, hphase, htrust⟩ := hrow op hmem
    exact exec_refused hop (refusal_tainted _ hready hne (hbound ▸ hphase) htaint htrust)
  case operandsOnly =>
    have hrow : ∀ o ∈ [Op.chk, .wrh, .val, .echo, .rrdy], o ≠ .abandon ∧ phaseAdmits o .bound = true ∧
        phaseAdmits o .unidentified = true ∧ needsTrust o = false := by decide
    obtain ⟨hne, hb, hu, htrust⟩ := hrow op hmem
    exact refusal_operands _ hready hne (hrest.elim (fun h => h ▸ hb) (fun h => h ▸ hu)) (.inr htrust)

/-! ### Illegal operands (R94) -/

section Operands

variable {s : State}

theorem badLen_eq_badLength {L : Len} (h : ¬LegalLen s L) : badLen s L = some .badLength := by
  rw [← lenLegal_iff] at h
  simp [badLen, h]

theorem badLen_none {L : Len} (h : LegalLen s L) : badLen s L = none := by
  rw [← lenLegal_iff] at h
  simp [badLen, h]

variable {a : XferArgs}

theorem lenAndPayload_iff (L : Len) (payload : List Byte) :
    (lenLegal s L && payloadFits L payload) = true ↔ LegalLen s L ∧ payload.length = L.toNat - 7 := by
  rw [Bool.and_eq_true, lenLegal_iff, payloadFits, beq_iff_eq]

theorem badXfer_eq_badLength (h : ¬(LegalLen s a.len ∧ a.payload.length = a.len.toNat - 7)) :
    badXfer s a = some .badLength := by
  rw [← lenAndPayload_iff, Bool.not_eq_true] at h
  rw [badXfer, h]
  rfl

theorem badXfer_eq_badDirection (hlen : LegalLen s a.len) (hpayload : a.payload.length = a.len.toNat - 7) (hdir : a.dir ≠ 1) :
    badXfer s a = some .badDirection := by
  have h := (lenAndPayload_iff a.len a.payload).2 ⟨hlen, hpayload⟩
  rw [badXfer, h, show (a.dir == dirToModule) = false from beq_false_of_ne hdir]
  rfl

theorem badXfer_eq_badMessageType (hlen : LegalLen s a.len) (hpayload : a.payload.length = a.len.toNat - 7) (hdir : a.dir = 1)
    (hmt : ¬LegalMt a.mt) : badXfer s a = some .badMessageType := by
  have h := (lenAndPayload_iff a.len a.payload).2 ⟨hlen, hpayload⟩
  rw [← mtLegal_iff, Bool.not_eq_true] at hmt
  rw [badXfer, h, hmt, hdir]
  rfl

variable {P : Len} {cfg : List CfgFrame}

theorem cfgLens_iff :
    (lenLegal s P && cfg.all (cfgLenLegal s)) = true ↔
      LegalLen s P ∧ ∀ f ∈ cfg, LegalLen s f.len ∧ f.payload.length = f.len.toNat - 7 := by
  simp [lenLegal_iff, cfgLenLegal_iff]

theorem badBuild_eq_badLength
    (h : ¬LegalLen s P ∨ ∃ f ∈ cfg, ¬(LegalLen s f.len ∧ f.payload.length = f.len.toNat - 7)) :
    badBuild s P cfg = some .badLength := by
  have hno : ¬(lenLegal s P && cfg.all (cfgLenLegal s)) = true := by
    rw [cfgLens_iff]
    rintro ⟨hP, hcfg⟩
    rcases h with h | ⟨f, hf, h⟩
    · exact h hP
    · exact h (hcfg f hf)
  rw [badBuild, Bool.eq_false_of_not_eq_true hno]
  rfl

theorem badBuild_eq_badMessageType (hP : LegalLen s P)
    (hcfg : ∀ f ∈ cfg, LegalLen s f.len ∧ f.payload.length = f.len.toNat - 7) (hmt : ∃ f ∈ cfg, ¬LegalMt f.mt) :
    badBuild s P cfg = some .badMessageType := by
  have hno : ¬(cfg.all fun f => mtLegal f.mt) = true := by simpa [mtLegal_iff] using hmt
  rw [badBuild, cfgLens_iff.2 ⟨hP, hcfg⟩, Bool.eq_false_of_not_eq_true hno]
  rfl

theorem badBuild_eq_emptyConfig (hP : LegalLen s P) : badBuild s P [] = some .emptyConfig := by
  rw [badBuild, cfgLens_iff.2 ⟨hP, by simp⟩]
  rfl

end Operands

/-- A bound, trusted instance looks at the operands of an exchange alone. -/
theorem refusal_exchange {s : State} {op : Op} (bad : Option Reason) (hop : op = .xchg ∨ op = .wr ∨ op = .xchge)
    (hready : Ready s) (hphase : s.phase = .bound) (htaint : s.taint = false) : refusal s op bad = bad := by
  refine refusal_operands bad hready ?_ ?_ (.inl htaint)
  · rcases hop with rfl | rfl | rfl <;> nofun
  · rcases hop with rfl | rfl | rfl <;> rw [hphase] <;> rfl

/-- An instance that admits ESC and BUILD looks at their operands alone. -/
theorem refusal_probe {s : State} {op : Op} (bad : Option Reason) (hop : op = .esc ∨ op = .build) (h : ProbeReady s) :
    refusal s op bad = bad := by
  obtain ⟨hready, hphase, htaint⟩ := h
  refine refusal_operands bad hready ?_ ?_ (.inl htaint)
  · rcases hop with rfl | rfl <;> nofun
  · rcases hop with rfl | rfl <;> rw [hphase] <;> rfl

/-- Settles O22: the instance is one that looks at the operands alone, and each check is reached when those before it pass. -/
theorem illegalOperandsAreRefused : Obligations.IllegalOperandsAreRefused := by
  refine ⟨fun s a i op hi hready hphase htaint hillegal => ?exchange, fun s idexp P cfg hready hillegal => ?build,
    fun s buf L hready hlen => ?lengths⟩
  case exchange =>
    obtain ⟨r, hr⟩ := Option.ne_none_iff_exists'.1 fun hnone => hillegal ((badXfer_none s a).1 hnone)
    obtain ⟨hop, hbad, hkind⟩ : opOf i = some op ∧ operandRefusal s i = badXfer s a ∧ (op = .xchg ∨ op = .wr ∨ op = .xchge) := by
      rcases hi with ⟨rfl, rfl⟩ | ⟨rfl, rfl⟩ | ⟨rfl, rfl⟩ <;> simp [opOf, operandRefusal]
    refine ⟨r, exec_refused hop ((refusal_exchange _ hkind hready hphase htaint).trans (hbad.trans hr)), fun h => ?_,
      fun hlen hpayload hdir => ?_, fun hlen hpayload hdir => ?_⟩
    · exact Option.some.inj (hr.symm.trans (badXfer_eq_badLength h))
    · exact Option.some.inj (hr.symm.trans (badXfer_eq_badDirection hlen hpayload hdir))
    · exact Option.some.inj (hr.symm.trans (badXfer_eq_badMessageType hlen hpayload hdir
        fun hmt => hillegal ⟨hlen, hpayload, hdir, hmt⟩))
  case build =>
    obtain ⟨r, hr⟩ := Option.ne_none_iff_exists'.1 fun hnone => hillegal ((badBuild_none s P cfg).1 hnone)
    refine ⟨r, exec_refused (i := .build idexp P cfg) rfl ((refusal_probe _ (.inr rfl) hready).trans hr), fun h => ?_,
      fun hP hcfg hmt => ?_, fun hP hempty => ?_⟩
    · exact Option.some.inj (hr.symm.trans (badBuild_eq_badLength h))
    · exact Option.some.inj (hr.symm.trans (badBuild_eq_badMessageType hP hcfg hmt))
    · rw [hempty] at hr
      exact Option.some.inj (hr.symm.trans (badBuild_eq_emptyConfig hP))
  case lengths =>
    have hbad := badLen_eq_badLength hlen
    refine ⟨exec_refused (i := .chk buf L) rfl ?_, exec_refused (i := .val buf L) rfl ?_,
      fun hprobe => exec_refused (i := .esc L) rfl ((refusal_probe _ (.inl rfl) hprobe).trans hbad)⟩
    · exact (refusal_eq_bad_of_ready (op := .chk) _ hready nofun rfl rfl).trans hbad
    · exact (refusal_eq_bad_of_ready (op := .val) _ hready nofun rfl rfl).trans hbad

end Sys2Proof.Machine

/-! PROOFS. The codec of 40_codec.md: what CHK, VAL and ECHO answer, the laws of the checksum and of a written frame, and the payload
fields of R114 and R115. -/

namespace Sys2Proof.Machine

/-! ### CHK, VAL and ECHO on a ready instance -/

/-- Settles O9: the checksum of the buffer the bit of `OP_BUFSEL` chooses, written as a sum over its offsets. -/
theorem chkComputesTheChecksum : Obligations.ChkComputesTheChecksum := by
  intro s buf len hready hlen
  have hadmits : refusal s .chk (badLen s len) = none :=
    (refusal_eq_bad_of_ready (op := .chk) _ hready nofun rfl rfl).trans (badLen_none hlen)
  rw [← bufOf_eq]
  simp only [← computeChecksum_eq_ofNat_sum]
  exact congrArg Host.Outcome.next (ifAdmitted_accepted hadmits)

/-- The three conjuncts of R112, each an equation between bytes. -/
theorem validateResponse_iff (v : View) (L : Nat) :
    validateResponse v L = true ↔
      v (L - 1) = sum8 (slice v 0 (L - 1)) ∧ v 1 = BitVec.ofNat 8 (L - 1) ∧ v 2 = 2 := by
  rw [validateResponse, Bool.and_eq_true, Bool.and_eq_true, cksOk, lenOk, dirOk, beq_iff_eq, beq_iff_eq, beq_iff_eq, and_assoc]
  rfl

/-- The four bytes of R113. -/
theorem checkEcho_iff (v : View) (mid mt midx : Byte) :
    checkEcho v mid mt midx = true ↔ v 2 = 2 ∧ v 3 = mid ∧ v 4 = mt ∧ v 5 = midx := by
  rw [checkEcho, Bool.and_eq_true, Bool.and_eq_true, Bool.and_eq_true, beq_iff_eq, beq_iff_eq, beq_iff_eq, beq_iff_eq, and_assoc,
    and_assoc]
  rfl

/-- Settles O11. -/
theorem valAnswersTheThreeConjuncts : Obligations.ValAnswersTheThreeConjuncts := by
  intro s buf len hready hlen
  have hadmits : refusal s .val (badLen s len) = none :=
    (refusal_eq_bad_of_ready (op := .val) _ hready nofun rfl rfl).trans (badLen_none hlen)
  rw [← bufOf_eq]
  exact ⟨validateResponse (s.bufOf buf).read len.toNat, validateResponse_iff _ _,
    congrArg Host.Outcome.next (ifAdmitted_accepted hadmits)⟩

/-- Settles O12. -/
theorem echoComparesTheHeader : Obligations.EchoComparesTheHeader := by
  intro s buf mid mt midx hready
  have hadmits : refusal s .echo none = none := refusal_eq_bad_of_ready (op := .echo) _ hready nofun rfl rfl
  rw [← bufOf_eq]
  exact ⟨checkEcho (s.bufOf buf).read mid mt midx, checkEcho_iff _ _ _ _,
    congrArg Host.Outcome.next (ifAdmitted_accepted hadmits)⟩

/-! ### The round trip of a written frame (R118) -/

section WrittenFrame

variable (b : Buf) (slot : Byte) {L : Nat} (dir mid mt midx : Byte)

theorem cksOk_writeHeader : cksOk (writeHeader b slot L dir mid mt midx).read L = true :=
  beq_iff_eq.2 (writeHeader_read_checksum b slot dir mid mt midx L)

theorem lenOk_writeHeader (hL : 7 ≤ L) : lenOk (writeHeader b slot L dir mid mt midx).read L = true :=
  beq_iff_eq.2 (writeHeader_read_header b slot dir mid mt midx hL (k := 1) (by omega))

theorem dirOk_writeHeader (hL : 7 ≤ L) : dirOk (writeHeader b slot L dir mid mt midx).read = (dir == 2) :=
  congrArg (· == (2 : Byte)) (writeHeader_read_header b slot dir mid mt midx hL (k := 2) (by omega))

/-- A written frame is valid exactly when its direction is FromModule. -/
theorem validateResponse_writeHeader (hL : 7 ≤ L) :
    validateResponse (writeHeader b slot L dir mid mt midx).read L = (dir == 2) := by
  rw [validateResponse, cksOk_writeHeader, lenOk_writeHeader b slot dir mid mt midx hL, dirOk_writeHeader b slot dir mid mt midx hL]
  rfl

end WrittenFrame

/-- Settles O13. -/
theorem writtenFramesValidate : Obligations.WrittenFramesValidate := by
  intro b slot mid mt midx L hmin _
  exact ⟨validateResponse_writeHeader b slot 2 mid mt midx hmin, cksOk_writeHeader b slot 1 mid mt midx,
    lenOk_writeHeader b slot 1 mid mt midx hmin, validateResponse_writeHeader b slot 1 mid mt midx hmin⟩

/-! ### The checksum of changed and of reordered bytes (R110, R117) -/

theorem slice_eq_append_cons (v : View) {k n : Nat} (h : k < n) : slice v 0 n = slice v 0 k ++ v k :: slice v (k + 1) n := by
  rw [slice_split v (Nat.zero_le k) (Nat.le_of_lt h), slice_split v (Nat.le_succ k) h, slice_succ]
  rfl

/-- Settles O14: a changed checksum byte no longer is the sum, and a changed byte before it changes the sum. -/
theorem oneChangedByteIsDetected : Obligations.OneChangedByteIsDetected := by
  intro b b' L k hL hk hne hsame hgood
  have hgood' : b (L - 1) = sum8 (slice b 0 (L - 1)) := beq_iff_eq.1 hgood
  suffices hbad : cksOk b' L = false by exact ⟨hbad, by rw [validateResponse, hbad]; rfl⟩
  refine beq_false_of_ne fun hcks : b' (L - 1) = sum8 (slice b' 0 (L - 1)) => ?_
  by_cases hlast : k = L - 1
  · have hbody : slice b 0 (L - 1) = slice b' 0 (L - 1) :=
      slice_congr fun j _ hj => hsame j (by omega) (by omega)
    rw [hlast] at hne
    exact hne (hgood'.trans (hbody ▸ hcks.symm))
  · have hbefore : slice b 0 k = slice b' 0 k := slice_congr fun j _ hj => hsame j (by omega) (by omega)
    have hafter : slice b (k + 1) (L - 1) = slice b' (k + 1) (L - 1) :=
      slice_congr fun j hj hj' => hsame j (by omega) (by omega)
    have hsum : sum8 (slice b 0 (L - 1)) = sum8 (slice b' 0 (L - 1)) :=
      hgood'.symm.trans ((hsame (L - 1) (by omega) (Ne.symm hlast)).trans hcks)
    rw [slice_eq_append_cons b (show k < L - 1 by omega), slice_eq_append_cons b' (show k < L - 1 by omega), hbefore, hafter,
      sum8_append_cons_inj] at hsum
    exact hne hsum

/-- Settles O15: the checksum is a sum of naturals, taken modulo 256. -/
theorem checksumIgnoresOrder : Obligations.ChecksumIgnoresOrder := by
  intro b b' L hperm
  have hsum : sum8 (slice b 0 (L - 1)) = sum8 (slice b' 0 (L - 1)) := by
    rw [sum8_eq_ofNat_sum, sum8_eq_ofNat_sum, (hperm.map BitVec.toNat).sum_eq]
  exact hsum

/-! ### Payload fields (R114, R115) -/

@[simp] theorem length_leBytes (n : Nat) (v : Int) : (leBytes n v).length = n := by
  induction n generalizing v with
  | zero => rfl
  | succ n ih => simp [leBytes, ih]

/-- The lowest base-256 digit, and the digits above it. -/
theorem emod_256_mul (v m : Int) : v % (256 * m) = v % 256 + 256 * (v / 256 % m) := by
  rw [Int.emod_def, Int.emod_def v 256, Int.emod_def (v / 256) m, Int.ediv_ediv_of_nonneg (by omega : (0 : Int) ≤ 256)]
  ring

/-- The bytes of a value read back as the value modulo `256 ^ n`. -/
theorem leValue_leBytes (n : Nat) (v : Int) : (leValue (leBytes n v) : Int) = v % 256 ^ n := by
  induction n generalizing v with
  | zero => simp [leBytes, leValue]
  | succ n ih =>
    have hdigit : ((BitVec.ofInt 8 v).toNat : Int) = v % 256 := by
      rw [BitVec.toNat_ofInt, Int.toNat_of_nonneg (Int.emod_nonneg v (by decide))]
      rfl
    calc (leValue (leBytes (n + 1) v) : Int)
        = (BitVec.ofInt 8 v).toNat + 256 * leValue (leBytes n (v / 256)) := by rw [leBytes, leValue]; push_cast; rfl
      _ = v % 256 + 256 * (v / 256 % 256 ^ n) := by rw [hdigit, ih]
      _ = v % 256 ^ (n + 1) := by rw [pow_succ', emod_256_mul]

/-- Two's complement reads a value in range back whole (R114, G1). -/
theorem signedOf_emod {n : Nat} {v : Int} (hlo : -(256 ^ n) ≤ 2 * v) (hhi : 2 * v < 256 ^ n) :
    signedOf n (v % 256 ^ n).toNat = v := by
  have hpos : (0 : Int) < 256 ^ n := by positivity
  have hcast : ((v % 256 ^ n).toNat : Int) = v % 256 ^ n := Int.toNat_of_nonneg (Int.emod_nonneg v hpos.ne')
  have hbig : 256 ^ n ≤ 2 * (v % 256 ^ n).toNat ↔ (256 : Int) ^ n ≤ 2 * (v % 256 ^ n) := by
    rw [← hcast]
    exact_mod_cast Iff.rfl
  by_cases hneg : v < 0
  · have hmod : v % 256 ^ n = v + 256 ^ n := by
      rw [← Int.add_emod_right, Int.emod_eq_of_lt (by omega) (by omega)]
    rw [signedOf, if_pos (hbig.2 (by omega)), hcast, hmod]
    omega
  · have hmod : v % 256 ^ n = v := Int.emod_eq_of_lt (by omega) (by omega)
    rw [signedOf, if_neg (fun h => by have := hbig.1 h; omega), hcast, hmod]

theorem fieldInside_iff (N : FieldWidth) (off L : Nat) : fieldInside N off L = true ↔ 6 ≤ off ∧ off + N.bytes ≤ L - 1 := by
  rw [fieldInside, Bool.and_eq_true, decide_eq_true_iff, decide_eq_true_iff]

/-- A field holds the bytes that were written to it. -/
theorem slice_writeBytes (b : Buf) (off : Nat) (bytes : List Byte) :
    slice (b.writeBytes off bytes).read off (off + bytes.length) = bytes := by
  refine slice_eq_list (by omega) fun k hk => ?_
  rw [Buf.read_writeBytes, if_pos (by omega), Nat.add_sub_cancel_left]

/-- Settles O16. -/
theorem payloadFieldsReadBack : Obligations.PayloadFieldsReadBack := by
  refine fun N b off L v => ⟨fun hoff hend => ?inside, fun hout => ?outside⟩
  case inside =>
    have hin := (fieldInside_iff N off L).2 ⟨hoff, hend⟩
    have hfield : slice (b.writeBytes off (leBytes N.bytes v)).read off (off + N.bytes) = leBytes N.bytes v := by
      simpa using slice_writeBytes b off (leBytes N.bytes v)
    have hread : le N (b.writeBytes off (leBytes N.bytes v)).read off L = some (v % 256 ^ N.bytes).toNat := by
      rw [le, if_pos hin, hfield, ← leValue_leBytes, Int.toNat_natCast]
    refine ⟨_, if_pos hin, hread, fun hlo hhi => ?signed, fun k hk => ?others⟩
    case signed => rw [sle, hread, Option.map_some, signedOf_emod hlo hhi]
    case others => rw [Buf.read_writeBytes, length_leBytes, if_neg (by omega)]
  case outside =>
    have hno : ¬fieldInside N off L = true := by
      rw [fieldInside_iff]
      omega
    refine ⟨if_neg hno, if_neg hno, ?_⟩
    rw [sle, le, if_neg hno, Option.map_none]

end Sys2Proof.Machine

/-! PROOFS. Everything one step of the machine can do, said once: `Worked` for a use of the resources, `Turned` for a turn of the sequencer,
`Accepted` for a request that is admitted, `Stepped` for a step. The statements about the whole machine are read off these. -/

namespace Sys2Proof.Machine

open Host (Outcome)

/-! ### Counting transfers (R140) -/


@[simp] theorem xferCount_append (a b : List Event) : xferCount (a ++ b) = xferCount a + xferCount b := List.countP_append

@[simp] theorem xferCount_xfer (tx rx : List Byte) : xferCount [.xfer tx rx] = 1 := rfl
@[simp] theorem xferCount_result (o : OpId) (r : Result) : xferCount [.result o r] = 0 := rfl

/-- The transfers that the next micro-step makes: one or none. -/
def xfersPending (s : State) : Nat := if pendingXfer s = none then 0 else 1

/-- The most transfers that the operation in progress still makes. -/
def xfersLeft (s : State) : Nat :=
  match s.seq.op with
  | some .esc => if s.seq.step ≤ 2 then 1 else 0
  | some .xchg => if s.seq.step ≤ 2 then 1 else 0
  | some .wr => if s.seq.step ≤ 2 then 1 else 0
  | some .xchge => if s.seq.step ≤ 2 then 1 else 0
  | some .build =>
    match s.seq.step with
    | 1 => 1 + s.operands.cfg.length
    | 2 => s.operands.cfg.length
    | 3 => s.operands.cfg.length - s.seq.frame - (if s.seq.sub ≤ 2 then 0 else 1)
    | _ => 0
  | _ => 0

theorem xfersPending_of_none {s : State} (h : pendingXfer s = none) : xfersPending s = 0 := if_pos h

theorem xfersPending_of_some {s : State} {n : Nat} (h : pendingXfer s = some n) : xfersPending s = 1 :=
  if_neg (by simp [h])

theorem xfersLeft_of_idle {s : State} (h : s.seq.op = none) : xfersLeft s = 0 := by simp [xfersLeft, h]

/-- A transfer that is next is one of those still to make. -/
theorem xfersPending_le_xfersLeft (s : State) : xfersPending s ≤ xfersLeft s := by
  cases hn : pendingXfer s with
  | none => rw [xfersPending_of_none hn]; exact Nat.zero_le _
  | some n =>
    rw [xfersPending_of_some hn]
    unfold pendingXfer at hn
    split at hn
    next hop hstep => simp [xfersLeft, hop, hstep]
    next hop hstep => simp [xfersLeft, hop, hstep]
    next hop hstep => simp [xfersLeft, hop, hstep]
    next hop hstep => simp [xfersLeft, hop, hstep]
    next hop hstep hsub => simp [xfersLeft, hop, hstep]
    next hop hstep hsub =>
      obtain ⟨f, hf, -⟩ := Option.map_eq_some_iff.1 hn
      have hlt := (List.getElem?_eq_some_iff.1 hf).1
      simp [xfersLeft, hop, hstep, hsub]
      omega
    next => cases hn

/-! ### The legal positions of each operation -/

/-- The last step of the operations whose first step is a prelude (R136, R137, R181). -/
def exchangeLast (op : Op) : Option Nat :=
  match op with
  | .xchg => some 4
  | .wr => some 3
  | .xchge => some 5
  | _ => none

section SeqLegal

variable {s : State}

theorem seqLegal_idle (h : s.seq.op = none) : SeqLegal s ↔ s.seq = Seq.idle := by simp [SeqLegal, h]

theorem seqLegal_esc (h : s.seq.op = some .esc) : SeqLegal s ↔
    s.seq.plain 3 ∧ s.seq.second = false ∧ s.phase = .unidentified ∧ s.taint = false ∧ LegalLen s s.operands.probeLen := by
  simp [SeqLegal, h]

theorem seqLegal_exchange {op : Op} {last : Nat} (h : s.seq.op = some op) (hlast : exchangeLast op = some last) :
    SeqLegal s ↔ s.seq.exchange last ∧ s.phase = .bound ∧ s.taint = false ∧ LegalXfer s s.operands.xferArgs := by
  unfold exchangeLast at hlast
  split at hlast <;> cases hlast <;> simp [SeqLegal, h]

theorem seqLegal_reset (h : s.seq.op = some .reset) : SeqLegal s ↔ s.seq.plain 5 ∧ s.seq.second = false := by
  simp [SeqLegal, h]

theorem seqLegal_build (h : s.seq.op = some .build) : SeqLegal s ↔
    s.seq.building s.operands.cfg.length ∧ s.phase = .unidentified ∧ s.taint = false ∧ LegalLen s s.operands.probeLen ∧
      s.operands.cfg ≠ [] ∧ ∀ f ∈ s.operands.cfg, LegalCfg s f := by
  simp [SeqLegal, h]

/-- What `SeqLegal` looks at. -/
theorem SeqLegal.congr {t : State} (h : SeqLegal s) (hseq : t.seq = s.seq) (hphase : t.phase = s.phase) (htaint : t.taint = s.taint)
    (hparams : t.params = s.params) (hoperands : t.operands = s.operands) : SeqLegal t := by
  unfold SeqLegal LegalXfer LegalCfg LegalLen at h ⊢
  rw [hseq, hphase, htaint, hparams, hoperands]
  exact h

end SeqLegal

/-- An idle instance is at no transfer. -/
theorem xfersPending_of_idle {s : State} (h : s.seq.op = none) : xfersPending s = 0 :=
  Nat.le_zero.1 (xfersLeft_of_idle h ▸ xfersPending_le_xfersLeft s)

theorem xfersLeft_congr {s t : State} (hseq : t.seq = s.seq) (hoperands : t.operands = s.operands) : xfersLeft t = xfersLeft s := by
  unfold xfersLeft
  rw [hseq, hoperands]

/-- No operation makes a transfer longer than `FRAME_CAP`. -/
theorem pendingXfer_le_frameCap {s : State} {n : Nat} (h : SeqLegal s) (hn : pendingXfer s = some n) : n ≤ s.params.frameCap := by
  unfold pendingXfer at hn
  split at hn
  next hop hstep =>
    cases hn
    obtain ⟨-, -, -, -, hlen⟩ := (seqLegal_esc hop).1 h
    exact hlen.2
  next hop hstep =>
    cases hn
    obtain ⟨-, -, -, hlen, -⟩ := (seqLegal_exchange hop rfl).1 h
    exact hlen.2
  next hop hstep =>
    cases hn
    obtain ⟨-, -, -, hlen, -⟩ := (seqLegal_exchange hop rfl).1 h
    exact hlen.2
  next hop hstep =>
    cases hn
    obtain ⟨-, -, -, hlen, -⟩ := (seqLegal_exchange hop rfl).1 h
    exact hlen.2
  next hop hstep hsub =>
    cases hn
    obtain ⟨-, -, -, hlen, -⟩ := (seqLegal_build hop).1 h
    exact hlen.2
  next hop hstep hsub =>
    obtain ⟨f, hf, rfl⟩ := Option.map_eq_some_iff.1 hn
    obtain ⟨-, -, -, -, -, hcfg⟩ := (seqLegal_build hop).1 h
    exact (hcfg f (List.mem_of_getElem? hf)).1.2
  next => cases hn

/-! ### What the use of a resource does, in any state -/

/-- The next micro-step has used its resource, or none: beside the trace, the draws, the counter, `RXBUF` and `RESET_OUT` nothing has
changed, the transfers in the trace are the one that was next, and `RXBUF` stays canonical where that one is not too long. -/
structure Worked (s u : State) : Prop where
  kept : Moved s { u with rxbuf := s.rxbuf }
  trace : ∃ events, u.trace = s.trace ++ events ∧ xferCount events ≤ xfersPending s
  rxWf : (∀ n, pendingXfer s = some n → n ≤ s.params.frameCap) → s.rxbuf.wf s.params.frameCap = true →
    u.rxbuf.wf s.params.frameCap = true

section Worked

variable {s t u : State}

theorem Worked.params (h : Worked s u) : u.params = s.params := h.kept.params
theorem Worked.slot (h : Worked s u) : u.slot = s.slot := h.kept.slot
theorem Worked.phase (h : Worked s u) : u.phase = s.phase := h.kept.phase
theorem Worked.ident (h : Worked s u) : u.ident = s.ident := h.kept.ident
theorem Worked.setup (h : Worked s u) : u.setup = s.setup := h.kept.setup
theorem Worked.taint (h : Worked s u) : u.taint = s.taint := h.kept.taint
theorem Worked.seq (h : Worked s u) : u.seq = s.seq := h.kept.seq
theorem Worked.operands (h : Worked s u) : u.operands = s.operands := h.kept.operands
theorem Worked.txbuf (h : Worked s u) : u.txbuf = s.txbuf := h.kept.txbuf

theorem Worked.of_moved {events : List Event} (hm : Moved s u) (ht : u.trace = s.trace ++ events) (hcount : xferCount events = 0) :
    Worked s u where
  kept := { hm with rxWf := id }
  trace := ⟨events, ht, by omega⟩
  rxWf := fun _ => hm.rxWf

theorem Worked.refl (s : State) : Worked s s := .of_moved (events := []) (Moved.refl s) (List.append_nil _).symm rfl

theorem Worked.scrubRx (h : Worked s u) : Worked s (scrubRx u) where
  kept := { h.kept with }
  trace := h.trace
  rxWf := fun _ _ => rfl

theorem Worked.gate (s : State) : Worked s (gate s).after := by
  rcases gate_spec s with ⟨t, h, hm, ht⟩ | ⟨t, h, hm, ht, -⟩ | ⟨t, h, hm, ht, -⟩ | ⟨t, h, hm, ht⟩ <;> rw [h]
  · exact .of_moved (hm.trans (emit_moved _ _)) (congrArg (· ++ _) ht) rfl
  · exact .of_moved (events := []) hm (ht.trans (List.append_nil _).symm) rfl
  · exact .of_moved (hm.trans (emit_moved _ _)) (congrArg (· ++ _) ht) rfl
  · exact .of_moved (hm.trans (emit_moved _ _)) (congrArg (· ++ _) ht) rfl

theorem Worked.gateIf (gated : Bool) (s : State) : Worked s (gateIf gated s).after := by
  cases gated
  · exact .refl s
  · exact .gate s

theorem Worked.delayIf (d : Option Duration) (s : State) : Worked s (delayIf d s) := by
  cases d with
  | none => exact .refl s
  | some d => exact .of_moved (delayIf_moved (some d) s) rfl rfl

theorem Worked.preludeHalf (gated : Bool) (d : Option Duration) (second : Bool) (s : State) :
    Worked s (preludeHalf gated d second s).after := by
  unfold Machine.preludeHalf
  split
  · exact .gateIf gated s
  · exact .delayIf d s
  · exact .delayIf d s
  · exact .gateIf gated s

theorem Worked.driveReset (level : Level) (s : State) : Worked s (driveReset level s).after := by
  have hm := driveReset_moved level s
  rcases driveReset_spec level s with ⟨t, h, -, ht⟩ | ⟨t, h, -, ht⟩ <;> rw [h] at hm ⊢
  · exact .of_moved hm (congrArg (· ++ _) ht) rfl
  · exact .of_moved hm (congrArg (· ++ _) ht) rfl

/-- The transfer that is next, whether it is made or fails. -/
theorem Worked.xfer {n : Nat} (hn : pendingXfer s = some n) : Worked s (xfer n s).after := by
  rcases xfer_spec n s with ⟨given, t, h, hm, ht⟩ | ⟨t, h, hm, ht⟩ <;> rw [h]
  · refine ⟨{ hm with rxWf := id }, ⟨[.xfer _ _], congrArg (· ++ _) ht, ?_⟩, fun hlen _ => ?_⟩
    · rw [xfersPending_of_some hn, xferCount_xfer]
    · exact Buf.wf_ofBytes (by simpa using hlen n hn)
  · exact (Worked.of_moved (hm.trans (emit_moved _ _)) (congrArg (· ++ _) ht) rfl).scrubRx

end Worked

/-! ### The errors and the holds of an attempt -/

/-- An attempt of the next micro-step: it works on the resources, fails with errors alone, in RESET with that of the reset line, and holds
only at a gate. -/
structure Tried (s : State) (a : Attempt) : Prop where
  worked : Worked s a.after
  error : ∀ e u, a = .failed e u → e ≠ .ok
  holds : ∀ u, a = .held u → pendingXfer s = none

section Tried

variable {s : State}

theorem Tried.gate (hn : pendingXfer s = none) : Tried s (gate s) := by
  refine ⟨.gate s, fun e u h => ?_, fun _ _ => hn⟩
  rcases gate_spec s with ⟨t, hg, -⟩ | ⟨t, hg, -⟩ | ⟨t, hg, -⟩ | ⟨t, hg, -⟩ <;> rw [hg] at h <;> cases h <;> nofun

theorem Tried.passed {u : State} (h : Worked s u) : Tried s (.passed u) :=
  ⟨h, fun _ _ h => Attempt.noConfusion h, fun _ h => Attempt.noConfusion h⟩

theorem Tried.gateIf (gated : Bool) (hn : pendingXfer s = none) : Tried s (gateIf gated s) := by
  cases gated
  · exact .passed (.refl s)
  · exact .gate hn

theorem Tried.preludeHalf (gated : Bool) (d : Option Duration) (second : Bool) (hn : pendingXfer s = none) :
    Tried s (preludeHalf gated d second s) := by
  unfold Machine.preludeHalf
  split
  · exact .gateIf gated hn
  · exact .passed (.delayIf d s)
  · exact .passed (.delayIf d s)
  · exact .gateIf gated hn

theorem Tried.xfer {n : Nat} (hn : pendingXfer s = some n) : Tried s (xfer n s) := by
  refine ⟨.xfer hn, fun e u h => ?_, fun u h => ?_⟩ <;>
    rcases xfer_spec n s with ⟨given, t, hx, -⟩ | ⟨t, hx, -⟩ <;> rw [hx] at h <;> cases h
  nofun

theorem driveReset_failed {level : Level} {e : Result} {u : State} (h : driveReset level s = .failed e u) :
    e = .resourceError .resetLine := by
  rcases driveReset_spec level s with ⟨t, hd, -⟩ | ⟨t, hd, -⟩ <;> rw [hd] at h <;> cases h
  rfl

theorem driveReset_not_held {level : Level} {u : State} : driveReset level s ≠ .held u := by
  rcases driveReset_spec level s with ⟨t, hd, -⟩ | ⟨t, hd, -⟩ <;> rw [hd] <;> nofun

theorem Tried.driveReset (level : Level) (s : State) : Tried s (driveReset level s) where
  worked := .driveReset level s
  error := fun e u h => by rw [driveReset_failed h]; nofun
  holds := fun u h => absurd h driveReset_not_held

end Tried

theorem responseError_ne_ok {v : View} {L : Nat} {e : Result} (h : responseError v L = some e) : e ≠ .ok := by
  unfold responseError at h
  split_ifs at h <;> cases h <;> nofun

theorem probeError_ne_ok {c : Bool} {v : View} {P : Nat} {idexp : Ident} {e : Result} (h : probeError c v P idexp = some e) :
    e ≠ .ok := by
  unfold probeError at h
  split_ifs at h <;> cases h <;> nofun

theorem cfgError_ne_ok {p : Params} {v : View} {L : Nat} {e : Result} (h : cfgError p v L = some e) : e ≠ .ok := by
  unfold cfgError at h
  split at h
  · exact responseError_ne_ok h
  · cases h

/-! ### What a turn of the sequencer can do (R28) -/

/-- A position that the operation in progress may go on to: a legal one comes from a legal one, and the transfer that is made between the
two is not to be made again. -/
structure GoesTo (s : State) (op : Op) (q : Seq) : Prop where
  op : q.op = some op
  legal : SeqLegal s → SeqLegal (seqTo q s)
  budget : xfersLeft (seqTo q s) + xfersPending s ≤ xfersLeft s

/-- What a turn of `op` in progress leads to. -/
inductive Turned (s : State) (op : Op) : State → Prop
  /-- The operation goes on at another position, or holds at the same one. -/
  | goesOn {u : State} {q : Seq} (w : Worked s u) (h : GoesTo s op q) : Turned s op (seqTo q u)
  /-- The operation ends with an error. -/
  | raises {u : State} {e : Result} (w : Worked s u) (herror : e ≠ .ok)
      (hedge : op = .reset → (s.seq.step = 1 ∨ s.seq.step = 3) ∧ e = .resourceError .resetLine) : Turned s op (raise op e u)
  /-- An operation of the transport ends with Ok. -/
  | ends {u : State} {r : ResVal} (w : Worked s u) (hreset : op ≠ .reset) (hbuild : op ≠ .build) : Turned s op (finishOk op r u)
  /-- BUILD assembles the frame of its next record. -/
  | assembles {f : CfgFrame} (hop : op = .build) (hf : s.operands.cfg[s.seq.frame]? = some f)
      (h : GoesTo s op (seqBuildFrame s.seq.frame 1 false)) :
      Turned s op (seqTo (seqBuildFrame s.seq.frame 1 false) (assembleCfg f s))
  /-- RESET ends (R160, step 5). -/
  | resets (hop : op = .reset) (hstep : s.seq.step = 5) :
      Turned s op (finishOk .reset .nothing { s with phase := .unidentified, taint := false })
  /-- BUILD ends (R161, step 4). -/
  | binds (hop : op = .build) (hstep : s.seq.step = 4) : Turned s op (bindTurn s)

section Turned

variable {s t : State} {op : Op} {q : Seq} {a : Attempt}

theorem GoesTo.stay (hop : s.seq.op = some op) (hn : pendingXfer s = none) : GoesTo s op s.seq :=
  ⟨hop, id, by rw [xfersPending_of_none hn]; exact Nat.le_refl _⟩

/-- An attempt that passes goes on, one that holds stays, one that fails raises its error. -/
theorem Turned.settle (hop : s.seq.op = some op) (ha : Tried s a) (hq : GoesTo s op q)
    (hedge : op = .reset → (s.seq.step = 1 ∨ s.seq.step = 3) ∧ ∀ e u, a = .failed e u → e = .resourceError .resetLine) :
    Turned s op (settle op (seqTo q) a) := by
  obtain ⟨hw, herror, hholds⟩ := ha
  cases a with
  | passed u => exact .goesOn hw hq
  | held u =>
    have hstay : Turned s op (seqTo s.seq u) := .goesOn hw (.stay hop (hholds u rfl))
    rw [← hw.seq] at hstay
    exact hstay
  | failed e u => exact .raises hw (herror e u rfl) fun h => ⟨(hedge h).1, (hedge h).2 e u rfl⟩

theorem Turned.settleScrubbed (hop : s.seq.op = some op) (ha : Tried s a) (hq : GoesTo s op q) (hreset : op ≠ .reset) :
    Turned s op (settleScrubbed op (seqTo q) a) := by
  cases a with
  | passed u => exact .settle (a := .passed u) hop ha hq fun h => absurd h hreset
  | held u => exact .settle (a := .held u) hop ha hq fun h => absurd h hreset
  | failed e u => exact .raises (Worked.scrubRx ha.worked) (ha.error e u rfl) fun h => absurd h hreset

end Turned

end Sys2Proof.Machine

/-! PROOFS. The turns of each operation: each does one of the things of `Turned`, and from a legal position there is a turn. -/

namespace Sys2Proof.Machine

open Host (Outcome)

/-! ### ESC and the exchanges: positions and transfers -/

section Positions

variable {s : State} {op : Op} {last k : Nat} {second : Bool}

theorem xfersLeft_esc (hop : s.seq.op = some .esc) : xfersLeft s = if s.seq.step ≤ 2 then 1 else 0 := by simp [xfersLeft, hop]

theorem xfersLeft_exchange (hop : s.seq.op = some op) (hlast : exchangeLast op = some last) :
    xfersLeft s = if s.seq.step ≤ 2 then 1 else 0 := by
  unfold exchangeLast at hlast
  split at hlast <;> cases hlast <;> simp [xfersLeft, hop]

theorem pendingXfer_esc (hop : s.seq.op = some .esc) (hstep : s.seq.step = 2) :
    pendingXfer s = some s.operands.probeLen.toNat := by simp [pendingXfer, hop, hstep]

theorem pendingXfer_exchange (hop : s.seq.op = some op) (hlast : exchangeLast op = some last) (hstep : s.seq.step = 2) :
    pendingXfer s = some s.operands.len.toNat := by
  unfold exchangeLast at hlast
  split at hlast <;> simp [pendingXfer, hop, hstep] at hlast ⊢

/-- Outside BUILD a transfer is next at step 2 alone. -/
theorem pendingXfer_none_of_step (hbuild : s.seq.op ≠ some .build) (hstep : s.seq.step ≠ 2) : pendingXfer s = none := by
  unfold pendingXfer
  split
  next h => exact absurd h hstep
  next h => exact absurd h hstep
  next h => exact absurd h hstep
  next h => exact absurd h hstep
  next h _ _ => exact absurd h hbuild
  next h _ _ => exact absurd h hbuild
  next => rfl

theorem xfersPending_le_step (hbuild : s.seq.op ≠ some .build) : xfersPending s ≤ if s.seq.step = 2 then 1 else 0 := by
  split
  next => unfold xfersPending; split <;> omega
  next hstep => rw [xfersPending_of_none (pendingXfer_none_of_step hbuild hstep)]

/-- ESC goes on to a later step, and from the transfer to one after it. -/
theorem GoesTo.esc (hop : s.seq.op = some .esc) (hle : s.seq.step ≤ k) (hxfer : s.seq.step = 2 → 3 ≤ k) (h1 : 1 ≤ k) (h3 : k ≤ 3) :
    GoesTo s .esc (Seq.start .esc k) where
  op := rfl
  legal := fun h => by
    obtain ⟨-, -, hphase, htaint, hlen⟩ := (seqLegal_esc hop).1 h
    exact (seqLegal_esc (s := seqTo _ s) rfl).2 ⟨⟨h1, h3, rfl, rfl⟩, rfl, hphase, htaint, hlen⟩
  budget := by
    have hpending := xfersPending_le_step (s := s) (by rw [hop]; nofun)
    rw [xfersLeft_esc hop, xfersLeft_esc (s := seqTo _ s) rfl, seqTo_seq, Seq.start]
    dsimp only
    split_ifs at hpending ⊢ <;> omega

/-- An exchange goes on to a later step, or to the second half of its prelude, and from the transfer to a step after it. -/
theorem GoesTo.exchange (hop : s.seq.op = some op) (hlast : exchangeLast op = some last) (hle : s.seq.step ≤ k)
    (hxfer : s.seq.step = 2 → 3 ≤ k) (h1 : 1 ≤ k) (hk : k ≤ last) (hsecond : second = true → k = 1) :
    GoesTo s op { Seq.start op k with second := second } where
  op := rfl
  legal := fun h => by
    obtain ⟨-, hphase, htaint, hargs⟩ := (seqLegal_exchange hop hlast).1 h
    exact (seqLegal_exchange (s := seqTo _ s) rfl hlast).2 ⟨⟨⟨h1, hk, rfl, rfl⟩, hsecond⟩, hphase, htaint, hargs⟩
  budget := by
    have hbuild : s.seq.op ≠ some .build := by
      rw [hop]
      rintro ⟨⟩
      cases hlast
    have hpending := xfersPending_le_step hbuild
    rw [xfersLeft_exchange hop hlast, xfersLeft_exchange (s := seqTo _ s) rfl hlast, seqTo_seq, Seq.start]
    dsimp only
    split_ifs at hpending ⊢ <;> omega

end Positions

/-! ### The turns of ESC, XCHG, WR, XCHGE -/

section Turns

variable {s t : State} {op : Op} {last : Nat}

theorem escTurn_turned (hop : s.seq.op = some .esc) (h : escTurn s = .next t) : Turned s .esc t := by
  unfold escTurn at h
  split at h
  next hstep =>
    cases h
    have hn := pendingXfer_none_of_step (s := s) (by rw [hop]; nofun) (by omega)
    exact .settle hop (.gateIf _ hn) (.esc hop (by omega) (by omega) (by omega) (by omega)) nofun
  next hstep =>
    cases h
    exact .settle hop (.xfer (pendingXfer_esc hop hstep)) (.esc hop (by omega) (by omega) (by omega) (by omega)) nofun
  next =>
    cases h
    exact .ends (.refl s) nofun nofun
  next => cases h

theorem exchangeLast_reset (hlast : exchangeLast op = some last) : op ≠ .reset := by rintro rfl; cases hlast
theorem exchangeLast_build (hlast : exchangeLast op = some last) : op ≠ .build := by rintro rfl; cases hlast
theorem exchangeLast_le (hlast : exchangeLast op = some last) : 3 ≤ last := by
  unfold exchangeLast at hlast
  split at hlast <;> cases hlast <;> omega

theorem preludeTurn_turned (gated : Bool) (hop : s.seq.op = some op) (hlast : exchangeLast op = some last) (hstep : s.seq.step = 1) :
    Turned s op (preludeTurn op gated s) := by
  have hlast3 := exchangeLast_le hlast
  have hn : pendingXfer s = none :=
    pendingXfer_none_of_step (by rw [hop]; exact fun h => exchangeLast_build hlast (Option.some.inj h)) (by omega)
  refine .settle hop (.preludeHalf gated _ _ hn) ?_ fun h => absurd h (exchangeLast_reset hlast)
  split
  · exact .exchange (second := false) hop hlast (by omega) (by omega) (by omega) (by omega) nofun
  · exact .exchange (second := true) hop hlast (by omega) (by omega) (by omega) (by omega) fun _ => rfl

theorem xferTurn_turned (hop : s.seq.op = some op) (hlast : exchangeLast op = some last) (hstep : s.seq.step = 2) :
    Turned s op (xferTurn op s) :=
  have hlast3 := exchangeLast_le hlast
  .settle hop (.xfer (pendingXfer_exchange hop hlast hstep))
    (.exchange (second := false) hop hlast (by omega) (by omega) (by omega) (by omega) nofun)
    fun h => absurd h (exchangeLast_reset hlast)

theorem checkTurn_turned (hop : s.seq.op = some op) (hlast : exchangeLast op = some last) (hstep : s.seq.step = 3) (h4 : 4 ≤ last) :
    Turned s op (checkTurn op s) := by
  unfold checkTurn
  split
  next e he => exact .raises (Worked.refl s).scrubRx (responseError_ne_ok he) fun h => absurd h (exchangeLast_reset hlast)
  next =>
    exact .goesOn (.refl s) (.exchange (second := false) hop hlast (by omega) (by omega) (by omega) (by omega) nofun)

theorem xchgTurn_turned (hop : s.seq.op = some .xchg) (h : xchgTurn s = .next t) : Turned s .xchg t := by
  unfold xchgTurn at h
  split at h
  next hstep =>
    cases h
    exact preludeTurn_turned true hop rfl hstep
  next hstep =>
    cases h
    exact xferTurn_turned hop rfl hstep
  next hstep =>
    cases h
    exact checkTurn_turned hop rfl hstep (by omega)
  next =>
    cases h
    exact .ends (.refl s) nofun nofun
  next => cases h

theorem wrTurn_turned (hop : s.seq.op = some .wr) (h : wrTurn s = .next t) : Turned s .wr t := by
  unfold wrTurn at h
  split at h
  next hstep =>
    cases h
    exact preludeTurn_turned _ hop rfl hstep
  next hstep =>
    cases h
    exact xferTurn_turned hop rfl hstep
  next =>
    cases h
    exact .ends (Worked.refl s).scrubRx nofun nofun
  next => cases h

theorem echoTurn_turned (hop : s.seq.op = some .xchge) (hstep : s.seq.step = 4) : Turned s .xchge (echoTurn s) := by
  unfold echoTurn
  split
  · exact .goesOn (.refl s) (.exchange (second := false) hop rfl (by omega) (by omega) (by omega) (by omega) nofun)
  · exact .raises (Worked.refl s).scrubRx nofun nofun

theorem xchgeTurn_turned (hop : s.seq.op = some .xchge) (h : xchgeTurn s = .next t) : Turned s .xchge t := by
  unfold xchgeTurn at h
  split at h
  next hstep =>
    cases h
    exact preludeTurn_turned true hop rfl hstep
  next hstep =>
    cases h
    exact xferTurn_turned hop rfl hstep
  next hstep =>
    cases h
    exact checkTurn_turned hop rfl hstep (by omega)
  next hstep =>
    cases h
    exact echoTurn_turned hop hstep
  next =>
    cases h
    exact .ends (.refl s) nofun nofun
  next => cases h

/-! ### The turns of RESET -/

theorem GoesTo.reset {k : Nat} (hop : s.seq.op = some .reset) (h1 : 1 ≤ k) (h5 : k ≤ 5) : GoesTo s .reset (Seq.start .reset k) where
  op := rfl
  legal := fun _ => (seqLegal_reset (s := seqTo _ s) rfl).2 ⟨⟨h1, h5, rfl, rfl⟩, rfl⟩
  budget := by
    have hn : pendingXfer s = none := by simp [pendingXfer, hop]
    rw [xfersPending_of_none hn]
    exact Nat.zero_le _

theorem resetTurn_turned (hop : s.seq.op = some .reset) (h : resetTurn s = .next t) : Turned s .reset t := by
  unfold resetTurn at h
  split at h
  next hstep =>
    cases h
    exact .settle hop (.driveReset .low s) (.reset hop (by omega) (by omega)) fun _ => ⟨.inl hstep, fun _ _ => driveReset_failed⟩
  next =>
    cases h
    exact .goesOn (.delayIf (some _) s) (.reset hop (by omega) (by omega))
  next hstep =>
    cases h
    exact .settle hop (.driveReset .high s) (.reset hop (by omega) (by omega)) fun _ => ⟨.inr hstep, fun _ _ => driveReset_failed⟩
  next =>
    cases h
    exact .goesOn (.delayIf (some _) s) (.reset hop (by omega) (by omega))
  next hstep =>
    cases h
    exact .resets rfl hstep
  next => cases h

/-! ### The turns of BUILD -/

/-- The operands of BUILD stay legal; only its position is to be shown. -/
theorem GoesTo.build {q : Seq} (hop : s.seq.op = some .build) (hq : q.op = some .build)
    (hbuilding : s.operands.cfg ≠ [] → s.seq.building s.operands.cfg.length → q.building s.operands.cfg.length)
    (hbudget : xfersLeft (seqTo q s) + xfersPending s ≤ xfersLeft s) : GoesTo s .build q where
  op := hq
  legal := fun h => by
    obtain ⟨hpos, hphase, htaint, hlen, hne, hcfg⟩ := (seqLegal_build hop).1 h
    exact (seqLegal_build (s := seqTo _ s) hq).2 ⟨hbuilding hne hpos, hphase, htaint, hlen, hne, hcfg⟩
  budget := hbudget

theorem buildProbeTurn_turned (hop : s.seq.op = some .build) (hstep : s.seq.step = 1) (h : buildProbeTurn s = .next t) :
    Turned s .build t := by
  unfold buildProbeTurn at h
  split at h
  next hsub =>
    cases h
    have hn : pendingXfer s = none := by simp [pendingXfer, hop, hstep, hsub]
    refine .settle hop (.gateIf _ hn) (.build hop rfl (fun _ _ => .inl ⟨rfl, rfl, .inr rfl, rfl⟩) ?_) nofun
    rw [xfersPending_of_none hn]
    simp [xfersLeft, hop, hstep, seqBuildProbe]
  next hsub =>
    cases h
    have hn : pendingXfer s = some s.operands.probeLen.toNat := by simp [pendingXfer, hop, hstep, hsub]
    refine .settle hop (.xfer hn) (.build hop rfl (fun _ _ => .inr (.inl ⟨rfl, rfl, rfl, rfl⟩)) ?_) nofun
    rw [xfersPending_of_some hn]
    simp [xfersLeft, hop, hstep, Seq.start, Nat.add_comm]
  next => cases h

theorem raiseProbe_turned {e : Result} (he : e ≠ .ok) : Turned s .build (raiseProbe e s) := by
  unfold raiseProbe
  split
  · exact .raises (.refl s) he nofun
  · exact .raises (Worked.refl s).scrubRx he nofun

theorem identityTurn_turned (hop : s.seq.op = some .build) (hstep : s.seq.step = 2) : Turned s .build (identityTurn s) := by
  unfold identityTurn
  split
  next e he => exact raiseProbe_turned (probeError_ne_ok he)
  next =>
    have hn : pendingXfer s = none := by simp [pendingXfer, hop, hstep]
    refine .goesOn (.refl s) (.build hop rfl (fun hne _ => .inr (.inr (.inl ⟨rfl, ?_, Nat.zero_le 3, nofun⟩))) ?_)
    · exact List.length_pos_iff.2 hne
    · rw [xfersPending_of_none hn]
      simp [xfersLeft, hop, hstep, seqBuildFrame]

/-- After a frame, the next record's or step 4. -/
theorem seqAfterFrame_building (hframe : s.seq.frame < s.operands.cfg.length) :
    (seqAfterFrame s s.seq.frame).building s.operands.cfg.length := by
  unfold seqAfterFrame
  split
  next hmore => exact .inr (.inr (.inl ⟨rfl, hmore, Nat.zero_le 3, nofun⟩))
  next hlast => exact .inr (.inr (.inr ⟨rfl, show s.seq.frame + 1 = _ by omega, rfl, rfl⟩))

theorem xfersLeft_seqAfterFrame :
    xfersLeft (seqTo (seqAfterFrame s s.seq.frame) s) ≤ s.operands.cfg.length - s.seq.frame - 1 := by
  unfold seqAfterFrame
  split
  next => simp [xfersLeft, seqBuildFrame]; omega
  next => simp [xfersLeft, Seq.start]

theorem buildFrameTurn_turned {f : CfgFrame} (hop : s.seq.op = some .build) (hstep : s.seq.step = 3)
    (hf : s.operands.cfg[s.seq.frame]? = some f) (h : buildFrameTurn f s = .next t) : Turned s .build t := by
  have hframe : s.seq.frame < s.operands.cfg.length := (List.getElem?_eq_some_iff.1 hf).1
  unfold buildFrameTurn at h
  split at h
  next hsub =>
    cases h
    have hn : pendingXfer s = none := by simp [pendingXfer, hop, hstep, hsub]
    refine .assembles rfl hf (.build hop rfl (fun _ _ => .inr (.inr (.inl ⟨rfl, hframe, show 1 ≤ 3 by omega, nofun⟩))) ?_)
    rw [xfersPending_of_none hn]
    simp [xfersLeft, hop, hstep, hsub, seqBuildFrame]
  next hsub =>
    cases h
    have hn : pendingXfer s = none := by simp [pendingXfer, hop, hstep, hsub]
    refine .settleScrubbed hop (.preludeHalf _ _ _ hn) ?_ nofun
    split
    · refine .build hop rfl (fun _ _ => .inr (.inr (.inl ⟨rfl, hframe, show 2 ≤ 3 by omega, nofun⟩))) ?_
      rw [xfersPending_of_none hn]
      simp [xfersLeft, hop, hstep, hsub, seqBuildFrame]
    · refine .build hop rfl (fun _ _ => .inr (.inr (.inl ⟨rfl, hframe, show 1 ≤ 3 by omega, fun _ => rfl⟩))) ?_
      rw [xfersPending_of_none hn]
      simp [xfersLeft, hop, hstep, hsub, seqBuildFrame]
  next hsub =>
    cases h
    have hn : pendingXfer s = some f.len.toNat := by simp [pendingXfer, hop, hstep, hsub, hf]
    refine .settle hop (.xfer hn) (.build hop rfl (fun _ _ => .inr (.inr (.inl ⟨rfl, hframe, Nat.le_refl 3, nofun⟩))) ?_) nofun
    rw [xfersPending_of_some hn]
    simp [xfersLeft, hop, hstep, hsub, seqBuildFrame]
    omega
  next hsub =>
    cases h
    have hn : pendingXfer s = none := by simp [pendingXfer, hop, hstep, hsub]
    split
    next e he => exact .raises (Worked.refl s).scrubRx (cfgError_ne_ok he) nofun
    next =>
      have hq : (seqAfterFrame s s.seq.frame).op = some .build := by unfold seqAfterFrame; split <;> rfl
      refine .goesOn (.refl s) (.build hop hq (fun _ _ => seqAfterFrame_building hframe) ?_)
      rw [xfersPending_of_none hn]
      refine Nat.le_trans xfersLeft_seqAfterFrame ?_
      simp [xfersLeft, hop, hstep, hsub]
  next => cases h

theorem buildTurn_turned (hop : s.seq.op = some .build) (h : buildTurn s = .next t) : Turned s .build t := by
  unfold buildTurn at h
  split at h
  next hstep => exact buildProbeTurn_turned hop hstep h
  next hstep =>
    cases h
    exact identityTurn_turned hop hstep
  next hstep =>
    split at h
    next f hf => exact buildFrameTurn_turned hop hstep hf h
    next => cases h
  next hstep =>
    cases h
    exact .binds rfl hstep
  next => cases h

/-! ### Any turn -/

theorem advance_turned (hop : s.seq.op = some op) (h : advance s = .next t) : Turned s op t := by
  unfold advance at h
  rw [hop] at h
  cases op with
  | esc => exact escTurn_turned hop h
  | xchg => exact xchgTurn_turned hop h
  | wr => exact wrTurn_turned hop h
  | xchge => exact xchgeTurn_turned hop h
  | reset => exact resetTurn_turned hop h
  | build => exact buildTurn_turned hop h
  | chk | wrh | val | echo | srst | rrdy | degrade | abandon => cases h

/-- BUILD has a turn at each position that `Seq.building` lists. -/
theorem buildTurn_total (h : s.seq.building s.operands.cfg.length) : ∃ t, buildTurn s = .next t := by
  rcases h with ⟨hstep, -, hsub | hsub, -⟩ | ⟨hstep, -⟩ | ⟨hstep, hframe, hsub, -⟩ | ⟨hstep, -⟩
  · exact ⟨_, by simp only [buildTurn, hstep, buildProbeTurn, hsub]; rfl⟩
  · exact ⟨_, by simp only [buildTurn, hstep, buildProbeTurn, hsub]; rfl⟩
  · exact ⟨_, by simp only [buildTurn, hstep]; rfl⟩
  · obtain hsub | hsub | hsub | hsub : s.seq.sub = 0 ∨ s.seq.sub = 1 ∨ s.seq.sub = 2 ∨ s.seq.sub = 3 := by omega
    all_goals exact ⟨_, by simp only [buildTurn, hstep, List.getElem?_eq_getElem hframe, buildFrameTurn, hsub]; rfl⟩
  · exact ⟨_, by simp only [buildTurn, hstep]; rfl⟩

/-- From a legal position there is a turn, never a fault. -/
theorem advance_total (h : SeqLegal s) : ∃ t, advance s = .next t := by
  cases hop : s.seq.op with
  | none => exact ⟨s, advance_idle hop⟩
  | some op =>
    unfold advance
    rw [hop]
    cases op with
    | esc =>
      obtain ⟨⟨h1, h3, -⟩, -⟩ := (seqLegal_esc hop).1 h
      obtain hstep | hstep | hstep : s.seq.step = 1 ∨ s.seq.step = 2 ∨ s.seq.step = 3 := by omega
      all_goals exact ⟨_, by simp only [escTurn, hstep]; rfl⟩
    | xchg =>
      obtain ⟨⟨⟨h1, h4, -⟩, -⟩, -⟩ := (seqLegal_exchange hop rfl).1 h
      obtain hstep | hstep | hstep | hstep : s.seq.step = 1 ∨ s.seq.step = 2 ∨ s.seq.step = 3 ∨ s.seq.step = 4 := by omega
      all_goals exact ⟨_, by simp only [xchgTurn, hstep]; rfl⟩
    | wr =>
      obtain ⟨⟨⟨h1, h3, -⟩, -⟩, -⟩ := (seqLegal_exchange hop rfl).1 h
      obtain hstep | hstep | hstep : s.seq.step = 1 ∨ s.seq.step = 2 ∨ s.seq.step = 3 := by omega
      all_goals exact ⟨_, by simp only [wrTurn, hstep]; rfl⟩
    | xchge =>
      obtain ⟨⟨⟨h1, h5, -⟩, -⟩, -⟩ := (seqLegal_exchange hop rfl).1 h
      obtain hstep | hstep | hstep | hstep | hstep :
        s.seq.step = 1 ∨ s.seq.step = 2 ∨ s.seq.step = 3 ∨ s.seq.step = 4 ∨ s.seq.step = 5 := by omega
      all_goals exact ⟨_, by simp only [xchgeTurn, hstep]; rfl⟩
    | reset =>
      obtain ⟨⟨h1, h5, -⟩, -⟩ := (seqLegal_reset hop).1 h
      obtain hstep | hstep | hstep | hstep | hstep :
        s.seq.step = 1 ∨ s.seq.step = 2 ∨ s.seq.step = 3 ∨ s.seq.step = 4 ∨ s.seq.step = 5 := by omega
      all_goals exact ⟨_, by simp only [resetTurn, hstep]; rfl⟩
    | build => exact buildTurn_total ((seqLegal_build hop).1 h).1
    | chk | wrh | val | echo | srst | rrdy | degrade | abandon => simp [SeqLegal, hop] at h

end Turns

end Sys2Proof.Machine

/-! PROOFS. The whole machine: what an accepted request does, what a step does, the invariant it keeps, and the statements about every step
that are read off these. -/

namespace Sys2Proof.Machine

open Host (Outcome)

/-! ### What an accepted request can do (R28, R208) -/

/-- What the acceptance of a request leads to. -/
inductive Accepted (s : State) : Instr → State → Prop
  /-- An operation of one micro-step ends with Ok. -/
  | ends {i : Instr} {op : Op} {o : Operands} {b : Buf} {u : State} {r : ResVal} (hop : opOf i = some op) (hready : Ready s)
      (hb : s.txbuf.wf s.params.frameCap = true → b.wf s.params.frameCap = true)
      (w : Worked { s with operands := o, txbuf := b } u) : Accepted s i (finishOk op r u)
  /-- An operation of one micro-step ends with an error. -/
  | fails {i : Instr} {op : Op} {o : Operands} {u : State} {e : Result} (hop : opOf i = some op) (hready : Ready s)
      (hreset : op ≠ .reset) (hbuild : op ≠ .build) (w : Worked { s with operands := o } u) : Accepted s i (raise op e u)
  /-- An operation that uses the link latches its operands, assembles its frame and stands at its first position. -/
  | starts {i : Instr} {t : State} {op : Op} {q : Seq} {o : Operands} {b : Buf} {n : Nat} (hop : opOf i = some op) (hready : Ready s)
      (ht : t = { s with operands := o, seq := q, txbuf := b, fresh := n }) (hq : q.op = some op) (hreset : op ≠ .reset)
      (hb : b.wf s.params.frameCap = true) (hlegal : SeqLegal t) (hbudget : xfersLeft t ≤ maxXfers i) : Accepted s i t
  /-- RESET starts (R160, step 0). -/
  | resets (hready : Ready s) (hphase : s.phase = .unidentified) :
      Accepted s .reset (seqTo (Seq.start .reset 1) { s with phase := .reset })
  /-- DEGRADE (R162). -/
  | degrades (hready : Ready s) (hphase : s.phase = .bound) :
      Accepted s .degrade (finishOk .degrade .nothing
        { s with phase := .unidentified, ident := ⟨false, Config.freeIdent s.fresh⟩, fresh := s.fresh + 1 })
  /-- ABANDON of the operation in progress (R165). -/
  | abandons {op : Op} (hsetup : s.setup = .ok) (hcoop : s.params.sched = .coop) (hop : s.seq.op = some op) :
      Accepted s .abandon (abandonOp op (strayIfPending s))

section Accepted

variable {s : State}

theorem writeHeader_wf {b : Buf} {cap L : Nat} (slot dir mid mt midx : Byte) (hb : b.wf cap = true) (hL : 7 ≤ L) (hc : L ≤ cap) :
    (writeHeader b slot L dir mid mt midx).wf cap = true := by
  simp only [writeHeader, writeHeaderBytes, offSlot, offLength, offDir, offMid, offMt, offMidx, offChecksum]
  iterate 7 refine Buf.wf_write _ ?_ (by omega)
  exact hb

theorem legalLen_of_badHeader {len : Len} {dir mt : Byte} (h : badHeader s len dir mt = none) : LegalLen s len := by
  by_contra hlen
  cases (badHeader_eq_badLength dir mt hlen).symm.trans h

theorem legalLen_of_badLen {len : Len} (h : badLen s len = none) : LegalLen s len := by
  by_contra hlen
  cases (badLen_eq_badLength hlen).symm.trans h

/-- The three exchanges are accepted alike. -/
theorem Accepted.exchange {i : Instr} {op : Op} {last : Nat} {a : XferArgs} (hop : opOf i = some op)
    (hlast : exchangeLast op = some last) (hmax : maxXfers i = 1) (hready : Ready s) (hphase : s.phase = .bound)
    (htaint : s.taint = false) (hargs : LegalXfer s a) :
    Accepted s i (seqTo (Seq.start op 1)
      (assemble a.len.toNat a.dir a.mid a.mt a.midx a.payload { s with operands := s.operands.withXferArgs a })) := by
  have hlast3 := exchangeLast_le hlast
  have ⟨hlen, hpayload, _, _⟩ := hargs
  refine .starts hop hready rfl rfl (exchangeLast_reset hlast) (frameImage_wf _ _ _ _ _ _ _ _ _ hlen.1 hlen.2 hpayload)
    ((seqLegal_exchange (op := op) (s := seqTo _ _) rfl hlast).2 ⟨⟨⟨?_, ?_, rfl, rfl⟩, nofun⟩, hphase, htaint, hargs⟩) ?_
  · exact Nat.le_refl 1
  · exact Nat.le_trans (Nat.le_of_ble_eq_true rfl) hlast3
  · rw [hmax, xfersLeft_exchange (op := op) (s := seqTo _ _) rfl hlast]
    split <;> omega

/-- What the admission of a request but ABANDON says of the state (R208, R215). -/
theorem admitted_of_refusal_none {op : Op} {bad : Option Reason} (h : refusal s op bad = none) (hop : op ≠ .abandon) :
    Ready s ∧ phaseAdmits op s.phase = true ∧ (needsTrust op = true → s.taint = false) ∧ bad = none := by
  obtain ⟨hsetup, hidle, hphase, htaint, hbad⟩ := (refusal_none hop).1 h
  refine ⟨⟨hsetup, hidle⟩, hphase, fun htrust => ?_, hbad⟩
  simpa [htrust] using htaint

/-- What the requests do that are admitted. -/
theorem exec_accepted {i : Instr} {op : Op} (hop : opOf i = some op) (h : refusal s op (operandRefusal s i) = none) :
    ∃ t, exec i s = .next t ∧ Accepted s i t := by
  cases i with
  | chk buf len =>
    cases hop
    obtain ⟨hready, -⟩ := admitted_of_refusal_none h nofun
    exact ⟨_, congrArg Outcome.next (ifAdmitted_accepted h), .ends (b := s.txbuf) rfl hready id (.refl _)⟩
  | wrh len dir mid mt midx =>
    cases hop
    obtain ⟨hready, -, -, hbad⟩ := admitted_of_refusal_none h nofun
    have hlen := legalLen_of_badHeader hbad
    exact ⟨_, congrArg Outcome.next (ifAdmitted_accepted h),
      .ends rfl hready (fun hb => writeHeader_wf _ _ _ _ _ hb hlen.1 hlen.2) (.refl _)⟩
  | val buf len =>
    cases hop
    obtain ⟨hready, -⟩ := admitted_of_refusal_none h nofun
    exact ⟨_, congrArg Outcome.next (ifAdmitted_accepted h), .ends (b := s.txbuf) rfl hready id (.refl _)⟩
  | echo buf mid mt midx =>
    cases hop
    obtain ⟨hready, -⟩ := admitted_of_refusal_none h nofun
    exact ⟨_, congrArg Outcome.next (ifAdmitted_accepted h), .ends (b := s.txbuf) rfl hready id (.refl _)⟩
  | esc p =>
    cases hop
    obtain ⟨hready, hphase, htaint, hbad⟩ := admitted_of_refusal_none h nofun
    have hlen := legalLen_of_badLen hbad
    refine ⟨_, congrArg Outcome.next (ifAdmitted_accepted h), .starts rfl hready rfl rfl nofun
      (probeImage_wf _ _ _ _ hlen.1 hlen.2) ((seqLegal_esc (s := seqTo _ _) rfl).2 ⟨⟨?_, ?_, rfl, rfl⟩, rfl, beq_iff_eq.1 hphase,
        htaint rfl, hlen⟩) (Nat.le_refl 1)⟩
    · exact Nat.le_refl 1
    · exact Nat.le_of_ble_eq_true rfl
  | xchg a =>
    cases hop
    obtain ⟨hready, hphase, htaint, hbad⟩ := admitted_of_refusal_none h nofun
    exact ⟨_, congrArg Outcome.next (ifAdmitted_accepted h), .exchange rfl rfl rfl hready (beq_iff_eq.1 hphase)
      (htaint rfl) ((badXfer_none s a).1 hbad)⟩
  | wr a =>
    cases hop
    obtain ⟨hready, hphase, htaint, hbad⟩ := admitted_of_refusal_none h nofun
    exact ⟨_, congrArg Outcome.next (ifAdmitted_accepted h), .exchange rfl rfl rfl hready (beq_iff_eq.1 hphase)
      (htaint rfl) ((badXfer_none s a).1 hbad)⟩
  | xchge a =>
    cases hop
    obtain ⟨hready, hphase, htaint, hbad⟩ := admitted_of_refusal_none h nofun
    exact ⟨_, congrArg Outcome.next (ifAdmitted_accepted h), .exchange rfl rfl rfl hready (beq_iff_eq.1 hphase)
      (htaint rfl) ((badXfer_none s a).1 hbad)⟩
  | srst level =>
    cases hop
    obtain ⟨hready, -⟩ := admitted_of_refusal_none h nofun
    refine ⟨_, congrArg Outcome.next (ifAdmitted_accepted h), ?_⟩
    have hw := Worked.driveReset level { s with operands := { s.operands with level := encodeLevel level } }
    cases hd : driveReset level { s with operands := { s.operands with level := encodeLevel level } } with
    | passed u => rw [hd] at hw; exact .ends (b := s.txbuf) rfl hready id hw
    | held u => exact absurd hd driveReset_not_held
    | failed e u => rw [hd] at hw; exact .fails rfl hready nofun nofun hw
  | rrdy =>
    cases hop
    obtain ⟨hready, -⟩ := admitted_of_refusal_none h nofun
    refine ⟨_, congrArg Outcome.next (ifAdmitted_accepted h), ?_⟩
    have hm := drawReady_moved s
    have ht : (drawReady s).2.trace = s.trace := by unfold drawReady; split <;> rfl
    have hw (e : Event) (hcount : xferCount [e] = 0) : Worked s (emit e (drawReady s).2) :=
      .of_moved (hm.trans (emit_moved _ _)) (congrArg (· ++ [e]) ht) hcount
    unfold finishRrdy
    split
    · exact .ends (o := s.operands) (b := s.txbuf) rfl hready id (hw _ rfl)
    · exact .ends (o := s.operands) (b := s.txbuf) rfl hready id (hw _ rfl)
    · exact .fails (o := s.operands) rfl hready nofun nofun (hw _ rfl)
  | reset =>
    cases hop
    obtain ⟨hready, hphase, -⟩ := admitted_of_refusal_none h nofun
    exact ⟨_, congrArg Outcome.next (ifAdmitted_accepted h), .resets hready (beq_iff_eq.1 hphase)⟩
  | build idexp p cfg =>
    cases hop
    obtain ⟨hready, hphase, htaint, hbad⟩ := admitted_of_refusal_none h nofun
    obtain ⟨hlen, hne, hcfg⟩ := (badBuild_none s p cfg).1 hbad
    exact ⟨_, congrArg Outcome.next (ifAdmitted_accepted h), .starts rfl hready rfl rfl nofun
      (probeImage_wf _ _ _ _ hlen.1 hlen.2) ((seqLegal_build (s := seqTo _ _) rfl).2 ⟨.inl ⟨rfl, rfl, .inl rfl, rfl⟩,
        beq_iff_eq.1 hphase, htaint rfl, hlen, hne, hcfg⟩) (Nat.le_refl _)⟩
  | degrade =>
    cases hop
    obtain ⟨hready, hphase, -⟩ := admitted_of_refusal_none h nofun
    exact ⟨_, congrArg Outcome.next (ifAdmitted_accepted h), .degrades hready (beq_iff_eq.1 hphase)⟩
  | abandon =>
    cases hop
    obtain ⟨hsetup, hcoop, hbusy⟩ := refusal_abandon_none.1 h
    obtain ⟨op, hop⟩ := Option.ne_none_iff_exists'.1 hbusy
    refine ⟨abandonOp op (strayIfPending s), ?_, .abandons hsetup hcoop hop⟩
    exact (congrArg Outcome.next (ifAdmitted_accepted h)).trans (by rw [hop])
  | frameToModuleid | frameToConfiguration | frameToData | frameToFeedback | frameFromModuleid | frameFromConfiguration
  | frameFromData | frameFromFeedback | probe => cases hop

/-- Every instruction has a next state: presented bytes, a refusal, or what its acceptance does. -/
theorem exec_cases (i : Instr) (s : State) : ∃ t, exec i s = .next t ∧
    ((∃ bytes, t = presentOnLink bytes s) ∨ (∃ o r, t = refuse o r s) ∨ Accepted s i t) := by
  cases hop : opOf i with
  | some op =>
    cases h : refusal s op (operandRefusal s i) with
    | some r => exact ⟨_, exec_refused hop h, .inr (.inl ⟨_, _, rfl⟩)⟩
    | none =>
      obtain ⟨t, ht, hacc⟩ := exec_accepted hop h
      exact ⟨t, ht, .inr (.inr hacc)⟩
  | none =>
    obtain ⟨bytes, henc⟩ : ∃ bytes, encode i = .wire bytes := by
      cases i with
      | chk | wrh | val | echo | esc | xchg | wr | srst | rrdy | xchge | reset | build | degrade | abandon => cases hop
      | frameToModuleid | frameToConfiguration | frameToData | frameToFeedback | frameFromModuleid | frameFromConfiguration
      | frameFromData | frameFromFeedback | probe => exact ⟨_, rfl⟩
    exact ⟨_, exec_wire s henc, .inl ⟨bytes, rfl⟩⟩

end Accepted

/-! ### What a step can do -/

/-- What one step leads to; each takes at most the first input off the port. -/
inductive Stepped (s : State) : State → Prop
  /-- An idle instance does not move. -/
  | idles {rest : List Input} (hidle : s.seq.op = none) : Stepped s { s with inbox := rest }
  /-- The operation in progress takes a turn. -/
  | turns {rest : List Input} {op : Op} {t : State} (hop : s.seq.op = some op) (h : Turned { s with inbox := rest } op t) :
      Stepped s t
  /-- The module presents bytes on the link. -/
  | presents {rest : List Input} (bytes : List Byte) : Stepped s (presentOnLink bytes { s with inbox := rest })
  /-- A request is refused. -/
  | refuses {rest : List Input} (o : OpId) (r : Reason) : Stepped s (refuse o r { s with inbox := rest })
  /-- A request is accepted. -/
  | accepts {rest : List Input} {i : Instr} {t : State} (hasks : Asks s i) (h : Accepted { s with inbox := rest } i t) : Stepped s t

section Stepped

variable {s t : State}

/-- A turn of the instance, with inputs to come or none. -/
theorem advance_stepped (rest : List Input) (h : advance { s with inbox := rest } = .next t) : Stepped s t := by
  cases hop : s.seq.op with
  | none =>
    cases (advance_idle (s := { s with inbox := rest }) hop).symm.trans h
    exact .idles hop
  | some op => exact .turns hop (advance_turned (s := { s with inbox := rest }) hop h)

theorem step_stepped (h : step s = .next t) : Stepped s t := by
  cases hin : s.inbox with
  | nil =>
    rw [step_eq_advance hin] at h
    exact advance_stepped s.inbox h
  | cons input rest =>
    cases input with
    | pause => exact advance_stepped rest ((step_pause hin).symm.trans h)
    | await =>
      cases hop : s.seq.op with
      | none =>
        cases (step_await_idle hin hop).symm.trans h
        exact .idles hop
      | some op => exact advance_stepped s.inbox ((step_await_busy hin hop).symm.trans h)
    | present w =>
      rw [step_present hin] at h
      cases hdec : decode w with
      | error e =>
        cases (runWord_error hdec).symm.trans h
        cases w with
        | request cmd ops => exact .refuses _ _
        | wire bytes => exact .presents bytes
      | ok i =>
        rw [runWord_ok hdec] at h
        obtain ⟨u, hu, hcases⟩ := exec_cases i { s with inbox := rest }
        cases hu.symm.trans h
        rcases hcases with ⟨bytes, rfl⟩ | ⟨o, r, rfl⟩ | hacc
        · exact .presents bytes
        · exact .refuses o r
        · exact .accepts ⟨w, rest, hin, hdec⟩ hacc

theorem runWord_total (w : PortWord) (s : State) : ∃ t, runWord w s = .next t := by
  cases hdec : decode w with
  | error e => exact ⟨_, runWord_error hdec⟩
  | ok i =>
    obtain ⟨t, ht, -⟩ := exec_cases i s
    exact ⟨t, (runWord_ok hdec).trans ht⟩

/-- An instance at a legal position takes a step. -/
theorem step_total (h : SeqLegal s) : ∃ t, step s = .next t := by
  have hadvance (rest : List Input) : ∃ t, advance { s with inbox := rest } = .next t :=
    advance_total (s := { s with inbox := rest }) (h.congr rfl rfl rfl rfl rfl)
  cases hin : s.inbox with
  | nil =>
    rw [step_eq_advance hin]
    exact advance_total h
  | cons input rest =>
    cases input with
    | pause =>
      rw [step_pause hin]
      exact hadvance rest
    | await =>
      cases hop : s.seq.op with
      | none => exact ⟨_, step_await_idle hin hop⟩
      | some op =>
        rw [step_await_busy hin hop]
        exact advance_total h
    | present w =>
      rw [step_present hin]
      exact runWord_total w _

end Stepped

/-! ### The construction inputs (R20, R21, R24) -/

/-- The parameters, `SLOT` and `SETUP` are the same. -/
structure SameConstruction (s t : State) : Prop where
  slot : t.slot = s.slot
  setup : t.setup = s.setup
  params : t.params = s.params

section Construction

variable {s t u : State}

theorem Worked.construction (w : Worked s u) : SameConstruction s u := ⟨w.slot, w.setup, w.params⟩

theorem Turned.construction {op : Op} (h : Turned s op t) : SameConstruction s t := by
  cases h with
  | goesOn w => exact ⟨w.slot, w.setup, w.params⟩
  | raises w => exact ⟨w.slot, w.setup, w.params⟩
  | ends w => exact ⟨w.slot, w.setup, w.params⟩
  | assembles | resets | binds => exact ⟨rfl, rfl, rfl⟩

theorem Accepted.construction {i : Instr} (h : Accepted s i t) : SameConstruction s t := by
  cases h with
  | ends hop hready hb w => exact ⟨w.slot, w.setup, w.params⟩
  | fails hop hready hreset hbuild w => exact ⟨w.slot, w.setup, w.params⟩
  | starts hop hready ht =>
    rw [ht]
    exact ⟨rfl, rfl, rfl⟩
  | resets | degrades => exact ⟨rfl, rfl, rfl⟩
  | abandons =>
    have hm := strayIfPending_moved s
    exact ⟨hm.slot, hm.setup, hm.params⟩

theorem Stepped.construction (h : Stepped s t) : SameConstruction s t := by
  cases h with
  | idles | presents | refuses => exact ⟨rfl, rfl, rfl⟩
  | turns hop h =>
    have hc := h.construction
    exact ⟨hc.slot, hc.setup, hc.params⟩
  | accepts hasks h =>
    have hc := h.construction
    exact ⟨hc.slot, hc.setup, hc.params⟩

end Construction

/-- Settles O52. -/
theorem constructionInputsNeverChange : Obligations.ConstructionInputsNeverChange := fun _ _ h =>
  have hc := (step_stepped h).construction
  ⟨hc.slot, hc.setup, hc.params⟩

/-! ### `TAINT` (R25) -/

/-- Settles O54: of all the things a step can do, ABANDON and the last step of RESET alone write `TAINT`. -/
theorem taintTransitions : Obligations.TaintTransitions := by
  intro s t hstep hne
  cases step_stepped hstep with
  | idles | presents | refuses => exact absurd rfl hne
  | turns hop h =>
    cases h with
    | goesOn w => exact absurd w.taint hne
    | raises w => exact absurd w.taint hne
    | ends w => exact absurd w.taint hne
    | assembles | binds => exact absurd rfl hne
    | resets hreset hlast => exact .inr ⟨rfl, by rw [hop, hreset], hlast, rfl⟩
  | accepts hasks h =>
    cases h with
    | ends hop hready hb w => exact absurd w.taint hne
    | fails hop hready hreset hbuild w => exact absurd w.taint hne
    | starts hop hready ht =>
      rw [ht] at hne
      exact absurd rfl hne
    | resets | degrades => exact absurd rfl hne
    | abandons hsetup hcoop hop => exact .inl ⟨rfl, rfl, hcoop, hasks⟩

/-! ### The invariant (R38) -/

section Invariant

variable {s t u : State}

theorem Inv.setup_of_busy {op : Op} (h : Inv s) (hop : s.seq.op = some op) : s.setup = .ok := by
  by_contra hfailed
  obtain ⟨-, hidle⟩ := h.failedIsInert hfailed
  rw [hidle] at hop
  cases hop

/-- An instance at rest is in a resting phase. -/
theorem Inv.phase_of_idle (h : Inv s) (hidle : s.seq.op = none) : s.phase ≠ .reset := by
  intro hphase
  rw [h.resetIffResetting.1 hphase] at hidle
  cases hidle

/-- The instance goes on with an operation, or starts one: its buffers, phase and position are to be shown. -/
theorem Inv.of_working (h : Inv s) (hok : s.setup = .ok) (hc : SameConstruction s t) (htx : t.txbuf.wf s.params.frameCap = true)
    (hrx : t.rxbuf.wf s.params.frameCap = true) (hbound : t.phase = .bound ↔ t.ident.valid = true)
    (hreset : t.phase = .reset ↔ t.seq.op = some .reset) (hlegal : SeqLegal t) : Inv t where
  cap := by rw [hc.params]; exact h.cap
  slotLegal := by rw [hc.setup, hc.slot]; exact h.slotLegal
  txWf := by rw [hc.params]; exact htx
  rxWf := by rw [hc.params]; exact hrx
  boundIffValid := hbound
  resetIffResetting := hreset
  failedIsInert := fun hfailed => absurd (hc.setup.trans hok) hfailed
  seqLegal := hlegal

/-- The instance is idle again: its buffers and its resting phase are to be shown. -/
theorem Inv.of_idle (h : Inv s) (hok : s.setup = .ok) (hc : SameConstruction s t) (htx : t.txbuf.wf s.params.frameCap = true)
    (hrx : t.rxbuf.wf s.params.frameCap = true) (hbound : t.phase = .bound ↔ t.ident.valid = true) (hphase : t.phase ≠ .reset)
    (hidle : t.seq = Seq.idle) : Inv t := by
  have hop : t.seq.op = none := by rw [hidle]; rfl
  refine h.of_working hok hc htx hrx hbound ⟨fun hp => absurd hp hphase, fun hr => ?_⟩ ((seqLegal_idle hop).2 hidle)
  cases hop.symm.trans hr

/-- The inputs and the draws to come, `STATUS` and the trace are not looked at. -/
theorem Inv.congr (h : Inv s) (hc : SameConstruction s t) (hphase : t.phase = s.phase) (hident : t.ident = s.ident)
    (htaint : t.taint = s.taint) (hseq : t.seq = s.seq) (hoperands : t.operands = s.operands) (htx : t.txbuf = s.txbuf)
    (hrx : t.rxbuf = s.rxbuf) : Inv t where
  cap := by rw [hc.params]; exact h.cap
  slotLegal := by rw [hc.setup, hc.slot]; exact h.slotLegal
  txWf := by rw [hc.params, htx]; exact h.txWf
  rxWf := by rw [hc.params, hrx]; exact h.rxWf
  boundIffValid := by rw [hphase, hident]; exact h.boundIffValid
  resetIffResetting := by rw [hphase, hseq]; exact h.resetIffResetting
  failedIsInert := by rw [hc.setup, hphase, hseq]; exact h.failedIsInert
  seqLegal := h.seqLegal.congr hseq hphase htaint hc.params hoperands

theorem Inv.inbox (h : Inv s) (rest : List Input) : Inv { s with inbox := rest } :=
  h.congr ⟨rfl, rfl, rfl⟩ rfl rfl rfl rfl rfl rfl rfl

theorem Worked.txWf (w : Worked s u) (h : Inv s) : u.txbuf.wf s.params.frameCap = true := by
  rw [w.txbuf]
  exact h.txWf

theorem Worked.rxWf_of_inv (w : Worked s u) (h : Inv s) : u.rxbuf.wf s.params.frameCap = true :=
  w.rxWf (fun _ hn => pendingXfer_le_frameCap h.seqLegal hn) h.rxWf

theorem Worked.boundIffValid (w : Worked s u) (h : Inv s) : u.phase = .bound ↔ u.ident.valid = true := by
  rw [w.phase, w.ident]
  exact h.boundIffValid

/-- The phase an error leaves is a resting one, and Bound only where it was. -/
theorem phaseAfterError_inv {op : Op} (h : Inv s) (hop : s.seq.op = some op) :
    phaseAfterError op s.phase ≠ .reset ∧ (phaseAfterError op s.phase = .bound ↔ s.ident.valid = true) := by
  have hreset := h.resetIffResetting
  by_cases hr : op = .reset
  · subst hr
    refine ⟨nofun, ⟨nofun, fun hvalid => ?_⟩⟩
    cases (h.boundIffValid.2 hvalid).symm.trans (hreset.2 hop)
  · by_cases hb : op = .build
    · subst hb
      obtain ⟨-, hphase, -⟩ := (seqLegal_build hop).1 h.seqLegal
      refine ⟨nofun, ⟨nofun, fun hvalid => ?_⟩⟩
      cases (h.boundIffValid.2 hvalid).symm.trans hphase
    · rw [phaseAfterError_of_ne _ hr hb]
      exact ⟨fun hp => hr (Option.some.inj (hop.symm.trans (hreset.1 hp))), h.boundIffValid⟩

theorem Turned.inv {op : Op} (ht : Turned s op t) (h : Inv s) (hop : s.seq.op = some op) : Inv t := by
  have hok := h.setup_of_busy hop
  have hc := ht.construction
  have hphase : op ≠ .reset → s.phase ≠ .reset := fun hne hp => hne (Option.some.inj (hop.symm.trans (h.resetIffResetting.1 hp)))
  cases ht with
  | goesOn w hq =>
    refine h.of_working hok hc (w.txWf h) (w.rxWf_of_inv h) (w.boundIffValid h) ?_
      ((hq.legal h.seqLegal).congr rfl w.phase w.taint w.params w.operands)
    rw [seqTo_phase, seqTo_seq, w.phase, hq.op, ← hop]
    exact h.resetIffResetting
  | raises w herror =>
    obtain ⟨hrest, hbound⟩ := phaseAfterError_inv h hop
    rw [← w.phase] at hrest hbound
    rw [← w.ident] at hbound
    exact h.of_idle hok hc (w.txWf h) (w.rxWf_of_inv h) hbound hrest rfl
  | ends w hreset hbuild =>
    exact h.of_idle hok hc (w.txWf h) (w.rxWf_of_inv h) (w.boundIffValid h) (w.phase ▸ hphase hreset) rfl
  | @assembles f hbuild hf hq =>
    subst hbuild
    obtain ⟨-, -, -, -, -, hcfg⟩ := (seqLegal_build hop).1 h.seqLegal
    obtain ⟨hlen, hpayload, -⟩ := hcfg f (List.mem_of_getElem? hf)
    refine h.of_working hok hc (frameImage_wf _ _ _ _ _ _ _ _ _ hlen.1 hlen.2 hpayload) h.rxWf h.boundIffValid ?_
      ((hq.legal h.seqLegal).congr rfl rfl rfl rfl rfl)
    rw [seqTo_seq, hq.op, ← hop]
    exact h.resetIffResetting
  | resets hreset hstep =>
    subst hreset
    refine h.of_idle hok hc h.txWf h.rxWf ⟨nofun, fun hvalid => ?_⟩ nofun rfl
    cases (h.boundIffValid.2 hvalid).symm.trans (h.resetIffResetting.2 hop)
  | binds hbuild hstep => exact h.of_idle hok hc h.txWf rfl ⟨fun _ => rfl, fun _ => rfl⟩ nofun rfl

/-- The state of an idle instance with other operands and another `TXBUF`. -/
theorem Inv.latched {o : Operands} {b : Buf} (h : Inv s) (hready : Ready s) (hb : b.wf s.params.frameCap = true) :
    Inv { s with operands := o, txbuf := b } :=
  h.of_idle hready.1 ⟨rfl, rfl, rfl⟩ hb h.rxWf h.boundIffValid (h.phase_of_idle hready.2) ((seqLegal_idle hready.2).1 h.seqLegal)

theorem Accepted.inv {i : Instr} (ha : Accepted s i t) (h : Inv s) : Inv t := by
  have hc := ha.construction
  cases ha with
  | @ends _ op o b u r hop hready hb w =>
    have hl : Inv { s with operands := o, txbuf := b } := h.latched hready (hb h.txWf)
    exact h.of_idle hready.1 hc (w.txWf hl) (w.rxWf_of_inv hl) (w.boundIffValid hl) (w.phase ▸ h.phase_of_idle hready.2) rfl
  | @fails _ op o u e hop hready hreset hbuild w =>
    have hl : Inv { s with operands := o } := h.latched hready h.txWf
    have hphase : phaseAfterError op u.phase = u.phase := phaseAfterError_of_ne _ hreset hbuild
    refine h.of_idle hready.1 hc (w.txWf hl) (w.rxWf_of_inv hl) ?_ ?_ rfl
    · rw [raise_phase, hphase]
      exact w.boundIffValid hl
    · rw [raise_phase, hphase, w.phase]
      exact h.phase_of_idle hready.2
  | starts hop hready ht hq hreset hb hlegal =>
    subst ht
    refine h.of_working hready.1 hc hb h.rxWf h.boundIffValid ⟨fun hp => absurd hp (h.phase_of_idle hready.2), fun hr => ?_⟩ hlegal
    exact absurd (Option.some.inj (hq.symm.trans hr)) hreset
  | resets hready hphase =>
    refine h.of_working hready.1 hc h.txWf h.rxWf ⟨nofun, fun hvalid => ?_⟩ ⟨fun _ => rfl, fun _ => rfl⟩ ?_
    · cases (h.boundIffValid.2 hvalid).symm.trans hphase
    · exact (seqLegal_reset (s := seqTo _ _) rfl).2 ⟨⟨Nat.le_refl 1, Nat.le_of_ble_eq_true rfl, rfl, rfl⟩, rfl⟩
  | degrades hready hphase => exact h.of_idle hready.1 hc h.txWf h.rxWf ⟨nofun, nofun⟩ nofun rfl
  | @abandons op hsetup hcoop hop =>
    have hm := strayIfPending_moved s
    refine h.of_idle hsetup hc rfl rfl ?_ ?_ rfl
    · rw [abandonOp_phase, abandonOp_ident, hm.phase, hm.ident]
      split
      · exact ⟨nofun, nofun⟩
      · exact h.boundIffValid
    · rw [abandonOp_phase, hm.phase]
      split
      · nofun
      next hne =>
        intro hp
        rw [Option.some.inj (hop.symm.trans (h.resetIffResetting.1 hp))] at hne
        exact hne rfl

theorem Stepped.inv (hs : Stepped s t) (h : Inv s) : Inv t := by
  cases hs with
  | idles => exact h.inbox _
  | turns hop ht => exact ht.inv (h.inbox _) hop
  | presents | refuses => exact h.congr ⟨rfl, rfl, rfl⟩ rfl rfl rfl rfl rfl rfl rfl
  | accepts hasks ha => exact ha.inv (h.inbox _)

end Invariant

/-- Settles O51: a legal position has a step, and each thing a step can do keeps the invariant. -/
theorem everyStepKeepsTheInvariant : Obligations.EveryStepKeepsTheInvariant := by
  intro s h
  obtain ⟨t, ht⟩ := step_total h.seqLegal
  exact ⟨t, ht, (step_stepped ht).inv h⟩

end Sys2Proof.Machine

/-! PROOFS. The whole machine, continued: the phases, a failed construction, how BUILD ends, and the count of transfers. -/

namespace Sys2Proof.Machine

open Host (Outcome)

/-! ### `PHASE` (R166) -/

section Phases

variable {s t : State}

/-- A turn that changes `PHASE` is a last step of RESET or step 4 of BUILD. -/
theorem Turned.phase_ne {op : Op} (ht : Turned s op t) (h : Inv s) (hop : s.seq.op = some op) (hne : t.phase ≠ s.phase) :
    (s.phase = .reset ∧ t.phase = .unidentified ∧ op = .reset ∧ s.seq.step = 5 ∧ t.taint = false ∧ t.status = .ok) ∨
    (s.phase = .reset ∧ t.phase = .unidentified ∧ op = .reset ∧ (s.seq.step = 1 ∨ s.seq.step = 3) ∧
      t.status = .resourceError .resetLine) ∨
    (s.phase = .unidentified ∧ t.phase = .bound ∧ op = .build ∧ s.seq.step = 4 ∧ t.status = .ok) := by
  cases ht with
  | goesOn w => exact absurd w.phase hne
  | @raises u e w herror hedge =>
    by_cases hreset : op = .reset
    · subst hreset
      exact .inr (.inl ⟨h.resetIffResetting.2 hop, rfl, rfl, (hedge rfl).1, (hedge rfl).2⟩)
    · by_cases hbuild : op = .build
      · subst hbuild
        obtain ⟨-, hphase, -⟩ := (seqLegal_build hop).1 h.seqLegal
        exact absurd hphase.symm hne
      · exact absurd ((phaseAfterError_of_ne _ hreset hbuild).trans w.phase) hne
  | ends w => exact absurd w.phase hne
  | assembles => exact absurd rfl hne
  | resets hreset hstep => exact .inl ⟨h.resetIffResetting.2 (by rw [hop, hreset]), rfl, hreset, hstep, rfl, rfl⟩
  | binds hbuild hstep =>
    subst hbuild
    obtain ⟨-, hphase, -⟩ := (seqLegal_build hop).1 h.seqLegal
    exact .inr (.inr ⟨hphase, rfl, rfl, hstep, rfl⟩)

/-- A request whose acceptance changes `PHASE` is RESET, DEGRADE, or ABANDON of RESET. -/
theorem Accepted.phase_ne {i : Instr} (ha : Accepted s i t) (h : Inv s) (hne : t.phase ≠ s.phase) :
    (s.phase = .unidentified ∧ t.phase = .reset ∧ s.seq.op = none ∧ i = .reset) ∨
    (s.phase = .reset ∧ t.phase = .unidentified ∧ s.params.sched = .coop ∧ i = .abandon ∧ t.taint = true) ∨
    (s.phase = .bound ∧ t.phase = .unidentified ∧ s.seq.op = none ∧ i = .degrade) := by
  cases ha with
  | ends hop hready hb w => exact absurd w.phase hne
  | fails hop hready hreset hbuild w => exact absurd ((phaseAfterError_of_ne _ hreset hbuild).trans w.phase) hne
  | starts hop hready ht =>
    subst ht
    exact absurd rfl hne
  | resets hready hphase => exact .inl ⟨hphase, rfl, hready.2, rfl⟩
  | degrades hready hphase => exact .inr (.inr ⟨hphase, rfl, hready.2, rfl⟩)
  | @abandons op hsetup hcoop hop =>
    have hm := strayIfPending_moved s
    rw [abandonOp_phase, hm.phase] at hne
    have hresets : abandonResetsPhase op = true := by
      by_contra hno
      rw [if_neg hno] at hne
      exact hne rfl
    rw [if_pos hresets] at hne
    rw [abandonOp_phase, if_pos hresets]
    rw [abandonResetsPhase, Bool.or_eq_true, beq_iff_eq, beq_iff_eq] at hresets
    rcases hresets with rfl | rfl
    · exact .inr (.inl ⟨h.resetIffResetting.2 hop, rfl, hcoop, rfl, rfl⟩)
    · obtain ⟨-, hphase, -⟩ := (seqLegal_build hop).1 h.seqLegal
      exact absurd hphase.symm hne

end Phases

/-- Settles O53: the six transitions are those of a turn and those of an accepted request. -/
theorem phaseTransitions : Obligations.PhaseTransitions := by
  intro s t h hstep hne
  cases step_stepped hstep with
  | idles | presents | refuses => exact absurd rfl hne
  | turns hop ht =>
    rcases ht.phase_ne (h.inbox _) hop hne with ⟨hs, ht', rfl, h5⟩ | ⟨hs, ht', rfl, hedge⟩ | ⟨hs, ht', rfl, h4⟩
    · exact .inr (.inl ⟨hs, ht', hop, h5⟩)
    · exact .inr (.inr (.inl ⟨hs, ht', hop, hedge⟩))
    · exact .inr (.inr (.inr (.inr (.inl ⟨hs, ht', hop, h4⟩))))
  | accepts hasks ha =>
    rcases ha.phase_ne (h.inbox _) hne with ⟨hs, ht, hidle, rfl⟩ | ⟨hs, ht, hcoop, rfl, htaint⟩ | ⟨hs, ht, hidle, rfl⟩
    · exact .inl ⟨hs, ht, hidle, hasks⟩
    · exact .inr (.inr (.inr (.inl ⟨hs, ht, hcoop, hasks, htaint⟩)))
    · exact .inr (.inr (.inr (.inr (.inr ⟨hs, ht, hidle, hasks⟩))))

/-! ### A failed construction (R38 (e), R209) -/

theorem Accepted.setup_ok {s t : State} {i : Instr} (h : Accepted s i t) : s.setup = .ok := by
  cases h with
  | ends hop hready | fails hop hready | starts hop hready | resets hready | degrades hready => exact hready.1
  | abandons hsetup => exact hsetup

/-- Settles O55: a failed instance is idle, and it accepts nothing. -/
theorem failedInstanceOnlyRefuses : Obligations.FailedInstanceOnlyRefuses := by
  intro s t h hfailed hstep
  cases step_stepped hstep with
  | idles | presents => exact ⟨rfl, rfl, rfl, rfl, rfl, rfl, rfl, rfl, rfl, rfl, rfl, .inl rfl⟩
  | refuses o r => exact ⟨rfl, rfl, rfl, rfl, rfl, rfl, rfl, rfl, rfl, rfl, rfl, .inr ⟨o, r, rfl⟩⟩
  | turns hop ht => exact absurd (h.setup_of_busy hop) hfailed
  | accepts hasks ha => exact absurd ha.setup_ok hfailed

/-! ### An idle instance (R163) -/

/-- Settles O56: the next state meets the invariant, and its phase is one of the two resting ones. -/
theorem idleInstancesAreUsable : Obligations.IdleInstancesAreUsable := by
  intro s t h hstep hsetup hidle
  have hphase := ((step_stepped hstep).inv h).phase_of_idle hidle
  have hready : Ready t := ⟨hsetup, hidle⟩
  cases hp : t.phase with
  | reset => exact absurd hp hphase
  | unidentified =>
    exact ⟨nofun, refusal_operands (op := .rrdy) none hready nofun (by rw [hp]; rfl) (.inr rfl),
      .inl (refusal_operands (op := .reset) none hready nofun (by rw [hp]; rfl) (.inr rfl))⟩
  | bound =>
    exact ⟨nofun, refusal_operands (op := .rrdy) none hready nofun (by rw [hp]; rfl) (.inr rfl),
      .inr (refusal_operands (op := .degrade) none hready nofun (by rw [hp]; rfl) (.inr rfl))⟩

/-! ### The ends of BUILD (R161) -/

/-- Settles O43: of the turns of BUILD, those that leave it idle are its errors and step 4. -/
theorem buildEndsBoundOrUnidentified : Obligations.BuildEndsBoundOrUnidentified := by
  intro s t h hop hadvance hidle
  have ht := advance_turned hop hadvance
  cases ht with
  | goesOn w hq => cases hidle.symm.trans hq.op
  | assembles hbuild hf hq => cases hidle.symm.trans hq.op
  | raises w herror =>
    obtain ⟨-, hphase, -⟩ := (seqLegal_build hop).1 h.seqLegal
    refine .inr ⟨herror, rfl, ?_⟩
    rw [raise_ident, w.ident, ← Bool.not_eq_true, ← h.boundIffValid, hphase]
    nofun
  | ends w hreset hbuild => exact absurd rfl hbuild
  | resets hreset => cases hreset
  | binds => exact .inl ⟨rfl, rfl, rfl⟩

/-! ### The count of transfers (R140) -/

section Transfers

variable {s t u : State}

theorem Worked.xferCount_le (w : Worked s u) : xferCount u.trace ≤ xferCount s.trace + xfersPending s := by
  obtain ⟨events, htrace, hcount⟩ := w.trace
  rw [htrace, xferCount_append]
  omega

/-- A turn makes no more transfers than it takes off those still to make. -/
theorem Turned.xferCount_le {op : Op} (h : Turned s op t) :
    xferCount t.trace + xfersLeft t ≤ xferCount s.trace + xfersLeft s := by
  have hpending := xfersPending_le_xfersLeft s
  cases h with
  | @goesOn u q w hq =>
    have hcount := w.xferCount_le
    have hbudget := hq.budget
    have hsame : xfersLeft (seqTo q u) = xfersLeft (seqTo q s) := xfersLeft_congr rfl w.operands
    rw [seqTo_trace, hsame]
    omega
  | raises w =>
    have hcount := w.xferCount_le
    rw [raise_trace, xferCount_append, xferCount_result, xfersLeft_of_idle (raise_seq _ _ _ ▸ rfl)]
    omega
  | ends w =>
    have hcount := w.xferCount_le
    rw [finishOk_trace, xferCount_append, xferCount_result, xfersLeft_of_idle (finishOk_seq _ _ _ ▸ rfl)]
    omega
  | @assembles f hop hf hq =>
    have hbudget := hq.budget
    have hsame : xfersLeft (seqTo (seqBuildFrame s.seq.frame 1 false) (assembleCfg f s)) =
        xfersLeft (seqTo (seqBuildFrame s.seq.frame 1 false) s) := rfl
    rw [hsame]
    show xferCount s.trace + _ ≤ _
    omega
  | resets =>
    rw [finishOk_trace, xferCount_append, xferCount_result, xfersLeft_of_idle (finishOk_seq _ _ _ ▸ rfl)]
    show xferCount s.trace + 0 + 0 ≤ _
    omega
  | binds =>
    rw [bindTurn, finishOk_trace, xferCount_append, xferCount_result, xfersLeft_of_idle (finishOk_seq _ _ _ ▸ rfl)]
    show xferCount s.trace + 0 + 0 ≤ _
    omega

theorem Turned.inbox {op : Op} (h : Turned s op t) : t.inbox = s.inbox := by
  cases h with
  | goesOn w => exact w.kept.inbox
  | raises w => exact w.kept.inbox
  | ends w => exact w.kept.inbox
  | assembles | resets | binds => rfl

/-- With no input to come, a run makes no more transfers than those still to make at its start. -/
theorem steps_xferCount_le (k : Nat) (hinbox : s.inbox = []) (h : steps k s = .next u) :
    xferCount u.trace ≤ xferCount s.trace + xfersLeft s := by
  induction k generalizing s with
  | zero =>
    cases h
    omega
  | succ k ih =>
    cases hop : s.seq.op with
    | none =>
      have hstay : step s = .next s := (step_eq_advance hinbox).trans (advance_idle hop)
      exact ih hinbox ((steps_succ k hstay).symm.trans h)
    | some op =>
      cases hs : step s with
      | next t =>
        have ht := advance_turned hop ((step_eq_advance hinbox).symm.trans hs)
        have hrest := ih (ht.inbox.trans hinbox) ((steps_succ k hs).symm.trans h)
        have hturn := ht.xferCount_le
        omega
      | fault _ => simp [steps, hs] at h
      | refused _ => simp [steps, hs] at h

/-- The acceptance of a request makes no transfer itself. -/
theorem Accepted.xferCount_le {i : Instr} (h : Accepted s i t) (hready : Ready s) :
    xferCount t.trace + xfersLeft t ≤ xferCount s.trace + maxXfers i := by
  have hnone (o : Operands) (b : Buf) : xfersPending { s with operands := o, txbuf := b } = 0 := xfersPending_of_idle hready.2
  cases h with
  | @ends _ _ o b _ _ hop hready' hb w =>
    have hcount := w.xferCount_le
    rw [hnone o b] at hcount
    rw [finishOk_trace, xferCount_append, xferCount_result, xfersLeft_of_idle (finishOk_seq _ _ _ ▸ rfl)]
    dsimp only at hcount
    omega
  | @fails _ _ o _ _ hop hready' hreset hbuild w =>
    have hcount := w.xferCount_le
    rw [hnone o s.txbuf] at hcount
    rw [raise_trace, xferCount_append, xferCount_result, xfersLeft_of_idle (raise_seq _ _ _ ▸ rfl)]
    dsimp only at hcount
    omega
  | starts hop hready' ht hq hreset hb hlegal hbudget =>
    have htrace : t.trace = s.trace := by rw [ht]
    rw [htrace]
    omega
  | resets => exact Nat.le_refl _
  | degrades =>
    rw [finishOk_trace, xferCount_append, xferCount_result, xfersLeft_of_idle (finishOk_seq _ _ _ ▸ rfl)]
    exact Nat.le_refl _
  | abandons hsetup hcoop hop => cases hready.2.symm.trans hop

theorem Accepted.inbox {i : Instr} (h : Accepted s i t) : t.inbox = s.inbox := by
  cases h with
  | ends hop hready hb w => exact w.kept.inbox
  | fails hop hready hreset hbuild w => exact w.kept.inbox
  | starts hop hready ht => rw [ht]
  | resets | degrades => rfl
  | abandons => exact (strayIfPending_moved s).inbox

end Transfers

/-- Settles O57: what a request may transfer is set when it is accepted, and every turn takes what it transfers off that. -/
theorem noTransferIsRepeated : Obligations.NoTransferIsRepeated := by
  intro i k s t u hready hinbox hexec hrun
  obtain ⟨t', ht', hcases⟩ := exec_cases i s
  cases ht'.symm.trans hexec
  have hstart : t.inbox = [] ∧ xferCount t.trace + xfersLeft t ≤ xferCount s.trace + maxXfers i := by
    rcases hcases with ⟨bytes, rfl⟩ | ⟨o, r, rfl⟩ | ha
    · refine ⟨hinbox, ?_⟩
      rw [presentOnLink_trace, xfersLeft_of_idle (s := presentOnLink bytes s) hready.2]
      omega
    · refine ⟨hinbox, ?_⟩
      rw [refuse_trace, xferCount_append, xferCount_result, xfersLeft_of_idle (s := refuse o r s) hready.2]
      omega
    · exact ⟨ha.inbox.trans hinbox, ha.xferCount_le hready⟩
  have hend := steps_xferCount_le k hstart.1 hrun
  omega

/-! ### Construction (R41, R230) -/

/-- Settles O49, by the two tests construction makes. -/
theorem constructionState : Obligations.ConstructionState := by
  intro p slot lost env s
  have hsetup : s.setup = if 1 ≤ slot.toNat ∧ slot.toNat ≤ 8 then
      (match lost with | none => .ok | some r => .failed (.resource r)) else .failed .slotOutOfRange := rfl
  refine ⟨rfl, rfl, rfl, rfl, rfl, rfl, rfl, rfl, ?_, fun r h1 h8 hlost => ?_, fun hslot => ?_⟩
  · rw [hsetup]
    by_cases hslot : 1 ≤ slot.toNat ∧ slot.toNat ≤ 8 <;> cases lost <;> simp [hslot]
  · rw [hsetup, if_pos ⟨h1, h8⟩, hlost]
  · rw [hsetup, if_neg hslot]

/-- Settles O50. -/
theorem resetMeetsTheInvariant : Obligations.ResetMeetsTheInvariant where
  cap := by decide
  slotLegal := fun _ => by decide
  txWf := reset_buffers_wf.1
  rxWf := reset_buffers_wf.2
  boundIffValid := ⟨nofun, nofun⟩
  resetIffResetting := ⟨nofun, nofun⟩
  failedIsInert := fun _ => ⟨rfl, rfl⟩
  seqLegal := rfl

end Sys2Proof.Machine

/-! PROOFS. The requests of one micro-step, RESET from its start to its end, ABANDON, the hold of a Coop gate, and the frames a module
presents: each follows one rule of the model to the state it leaves. -/

namespace Sys2Proof.Machine

open Host (Outcome)

/-! ### SRST, RRDY and DEGRADE (R138, R139, R162) -/

/-- Settles O32. -/
theorem srstDrivesTheResetLine : Obligations.SrstDrivesTheResetLine := by
  intro s level ds hready hdrive
  obtain ⟨hidle, hphase, htaint⟩ := hready
  have hadmits : refusal s .srst none = none := refusal_operands (op := .srst) none hidle nofun (by rw [hphase]; rfl) (.inl htaint)
  have hdriven : driveReset level { s with operands := { s.operands with level := encodeLevel level } } = .passed _ :=
    driveReset_drives hdrive
  rw [← ofLevel_eq]
  calc exec (.srst level) s
      = .next (settle .srst (finishOk .srst .nothing)
          (driveReset level { s with operands := { s.operands with level := encodeLevel level } })) :=
        congrArg Outcome.next (ifAdmitted_accepted hadmits)
    _ = _ := by rw [hdriven, settle_passed]; simp [finishOk, emit]

/-- RRDY, admitted, is its one sample. -/
theorem exec_rrdy {s : State} (hready : Ready s) (hphase : s.phase ≠ .reset) :
    exec .rrdy s = .next (finishRrdy (drawReady s).1 (drawReady s).2) := by
  have hadmits : phaseAdmits .rrdy s.phase = true := by
    cases hp : s.phase with
    | unidentified | bound => rfl
    | reset => exact absurd hp hphase
  exact congrArg Outcome.next (ifAdmitted_accepted (refusal_operands (op := .rrdy) none hready nofun hadmits (.inr rfl)))

/-- Settles O33, sample by sample. -/
theorem rrdyReadsTheReadyLine : Obligations.RrdyReadsTheReadyLine := by
  refine fun s rs hready hphase => ⟨fun hasserted => ?_, fun hdeasserted => ?_⟩
  · rw [exec_rrdy hready hphase, drawReady_cons hasserted]
    simp [finishRrdy, finishOk, emit]
  · rw [exec_rrdy hready hphase, drawReady_cons hdeasserted]
    simp [finishRrdy, finishOk, emit]

/-- Settles O44. -/
theorem degradeReturnsToUnidentified : Obligations.DegradeReturnsToUnidentified := by
  intro s hready hphase
  have hadmits : refusal s .degrade none = none := refusal_operands (op := .degrade) none hready nofun (by rw [hphase]; rfl) (.inr rfl)
  exact ⟨_, congrArg Outcome.next (ifAdmitted_accepted hadmits), rfl⟩

/-! ### RESET (R160) -/

section Reset

variable {s : State}

/-- RESET, admitted, stands before its first edge in the phase Reset. -/
theorem exec_reset (hready : Ready s) (hphase : s.phase = .unidentified) :
    exec .reset s = .next { s with phase := .reset, seq := Seq.start .reset 1 } :=
  congrArg Outcome.next
    (ifAdmitted_accepted (refusal_operands (op := .reset) none hready nofun (by rw [hphase]; rfl) (.inr rfl)))

theorem step_resetTurn {k : Nat} (hseq : s.seq = Seq.start .reset k) (hinbox : s.inbox = []) : step s = resetTurn s := by
  have hop : s.seq.op = some .reset := by rw [hseq]; rfl
  rw [step_eq_advance hinbox, advance, hop]

variable {ds : List DriveDraw}

/-- The turn at an edge of RESET whose line works. -/
theorem step_reset_low (hseq : s.seq = Seq.start .reset 1) (hinbox : s.inbox = []) (hdrive : s.env.drive = .drives :: ds) :
    step s = .next { s with
      env := { s.env with drive := ds }, resetOut := .low, seq := Seq.start .reset 2, trace := s.trace ++ [.reset .low] } := by
  rw [step_resetTurn hseq hinbox, resetTurn, hseq]
  simp [Seq.start, driveReset_drives hdrive, seqTo, emit, ResetOut.ofLevel]

theorem step_reset_high (hseq : s.seq = Seq.start .reset 3) (hinbox : s.inbox = []) (hdrive : s.env.drive = .drives :: ds) :
    step s = .next { s with
      env := { s.env with drive := ds }, resetOut := .high, seq := Seq.start .reset 4, trace := s.trace ++ [.reset .high] } := by
  rw [step_resetTurn hseq hinbox, resetTurn, hseq]
  simp [Seq.start, driveReset_drives hdrive, seqTo, emit, ResetOut.ofLevel]

theorem step_reset_high_fails (hseq : s.seq = Seq.start .reset 3) (hinbox : s.inbox = []) (hdrive : s.env.drive = .fails :: ds) :
    step s = .next (raise .reset (.resourceError .resetLine)
      { emit (.fail .resetLine) { s with env := { s.env with drive := ds } } with resetOut := .unknown }) :=
  (step_eq_advance hinbox).trans (advance_edge_failed (by rw [hseq]; rfl) (.inr (by rw [hseq]; rfl)) fun _ => driveReset_fails hdrive)

/-- Between its edges RESET waits, and after the second one too. -/
theorem step_reset_wait_low (hseq : s.seq = Seq.start .reset 2) (hinbox : s.inbox = []) :
    step s = .next { s with seq := Seq.start .reset 3, trace := s.trace ++ [.delay s.params.tRstLow] } := by
  rw [step_resetTurn hseq hinbox, resetTurn, hseq]
  rfl

theorem step_reset_wait_high (hseq : s.seq = Seq.start .reset 4) (hinbox : s.inbox = []) :
    step s = .next { s with seq := Seq.start .reset 5, trace := s.trace ++ [.delay s.params.tRstHigh] } := by
  rw [step_resetTurn hseq hinbox, resetTurn, hseq]
  rfl

theorem step_reset_end (hseq : s.seq = Seq.start .reset 5) (hinbox : s.inbox = []) :
    step s = .next (finishOk .reset .nothing { s with phase := .unidentified, taint := false }) := by
  rw [step_resetTurn hseq hinbox, resetTurn, hseq]
  rfl

end Reset

/-- Settles O37, turn by turn. -/
theorem resetPulsesTheLine : Obligations.ResetPulsesTheLine := by
  intro s ds hready hphase hinbox hdrive
  have h1 := step_reset_low (s := { s with phase := .reset, seq := Seq.start .reset 1 }) rfl hinbox hdrive
  have h2 := (steps_succ 1 h1).trans (steps_one (step_reset_wait_low rfl hinbox))
  have h3 := (steps_add (k := 1) h2).trans (steps_one (step_reset_high rfl hinbox rfl))
  have h4 := (steps_add (k := 1) h3).trans (steps_one (step_reset_wait_high rfl hinbox))
  have h5 := (steps_add (k := 1) h4).trans (steps_one (step_reset_end rfl hinbox))
  refine ⟨_, _, exec_reset hready hphase, rfl, h5, fun k v hk hk' hv => ?_, ?_⟩
  · obtain rfl | rfl | rfl | rfl : k = 1 ∨ k = 2 ∨ k = 3 ∨ k = 4 := by omega
    · cases (steps_one h1).symm.trans hv
      rfl
    · cases h2.symm.trans hv
      rfl
    · cases h3.symm.trans hv
      rfl
    · cases h4.symm.trans hv
      rfl
  · simp [finishOk, hphase]

/-- Settles O38: the second edge raises the error of the line. -/
theorem resetFailsAtTheSecondEdge : Obligations.ResetFailsAtTheSecondEdge := by
  intro s ds hready hphase hinbox hdrive
  have h1 := step_reset_low (s := { s with phase := .reset, seq := Seq.start .reset 1 }) rfl hinbox hdrive
  have h2 := (steps_succ 1 h1).trans (steps_one (step_reset_wait_low rfl hinbox))
  have h3 := (steps_add (k := 1) h2).trans (steps_one (step_reset_high_fails rfl hinbox rfl))
  exact ⟨_, _, exec_reset hready hphase, h3, rfl, rfl, rfl, rfl, rfl, by simp⟩

/-! ### ABANDON (R165) -/

theorem strayIfPending_resetOut (s : State) : (strayIfPending s).resetOut = s.resetOut := by
  unfold strayIfPending strayEvent
  split
  · have hdraw : (drawStray s).2.resetOut = s.resetOut := by unfold drawStray; split <;> rfl
    split
    next heq => rw [heq] at hdraw; exact hdraw
    next heq => rw [heq] at hdraw; exact hdraw
  · rfl

/-- An abandoned transfer leaves nothing in the trace, or an event of its first bytes (U3). -/
theorem strayIfPending_trace (s : State) : ∃ stray, (strayIfPending s).trace = s.trace ++ stray ∧
    (stray = [] ∨ ∃ n k rx, pendingXfer s = some n ∧ k ≤ n ∧ rx.length = k ∧
      stray = [.xfer (slice s.txbuf.read 0 k) rx]) := by
  unfold strayIfPending
  split
  next n hn =>
    have hmoved := drawStray_moved s
    have htrace : (drawStray s).2.trace = s.trace := by unfold drawStray; split <;> rfl
    unfold strayEvent
    split
    next t heq =>
      rw [heq] at htrace
      exact ⟨[], htrace.trans (List.append_nil _).symm, .inl rfl⟩
    next count given t heq =>
      rw [heq] at htrace hmoved
      refine ⟨_, congrArg (· ++ _) htrace, .inr ⟨n, min count n, received t.fresh (min count n) given, hn,
        Nat.min_le_right _ _, length_received _ _ _, ?_⟩⟩
      rw [hmoved.txbuf]
  next => exact ⟨[], (List.append_nil _).symm, .inl rfl⟩

/-- Settles O45: what `abandonOp` writes, over a state that the stray bytes have moved in the trace alone. -/
theorem abandonTaintsTheInstance : Obligations.AbandonTaintsTheInstance := by
  intro s op hsetup hcoop hop
  have hadmits : refusal s .abandon none = none := refusal_abandon_none.2 ⟨hsetup, hcoop, by rw [hop]; nofun⟩
  have hexec : exec .abandon s = .next (abandonOp op (strayIfPending s)) :=
    (congrArg Outcome.next (ifAdmitted_accepted hadmits)).trans (by rw [hop])
  have hm := strayIfPending_moved s
  obtain ⟨stray, htrace, hstray⟩ := strayIfPending_trace s
  refine ⟨_, stray, hexec, rfl, rfl, rfl, strayIfPending_resetOut s, hm.slot, hm.setup, hm.params, hm.operands, fun h => ?_,
    fun hreset hbuild => ?_, ?_, hstray⟩
  · have hresets : abandonResetsPhase op = true := by rcases h with rfl | rfl <;> rfl
    rw [abandonOp_phase, abandonOp_ident, if_pos hresets, if_pos hresets]
    exact ⟨rfl, rfl⟩
  · have hkeeps : ¬abandonResetsPhase op = true := by simp [abandonResetsPhase, hreset, hbuild]
    rw [abandonOp_phase, abandonOp_ident, if_neg hkeeps, if_neg hkeeps]
    exact ⟨hm.phase, hm.ident⟩
  · rw [abandonOp_trace, htrace]

/-! ### The hold of a Coop gate (R132) -/

theorem preludeTurn_gate_held {s u : State} {gated : Bool} (op : Op) (hhalf : s.seq.second = (s.params.gateOrder == .afterDelay))
    (hgated : gated = true) (hheld : gate s = .held u) : preludeTurn op gated s = u := by
  rw [preludeTurn, preludeHalf_eq_gateIf _ _ hhalf, hgated, gateIf_true, hheld, settle_held]

/-- A turn at a gate that holds takes the look and nothing else. -/
theorem advance_gate_held {s u : State} (hgate : AtGate s) (hheld : gate s = .held u) : advance s = .next u := by
  rcases hgate with ⟨hesc, hstep, hgated⟩ | ⟨hxchg, hstep, hhalf⟩ | ⟨hwr, hstep, hhalf, hgated⟩ | ⟨hxchge, hstep, hhalf⟩ |
    ⟨hbuild, hstep, hsub, hgated⟩ | ⟨hbuild, hstep, hsub, hframe, hhalf, hgated⟩
  · simp [advance, hesc, escTurn, hstep, hgated, hheld]
  · simp [advance, hxchg, xchgTurn, hstep, preludeTurn_gate_held .xchg hhalf rfl hheld]
  · simp [advance, hwr, wrTurn, hstep, preludeTurn_gate_held .wr hhalf hgated hheld]
  · simp [advance, hxchge, xchgeTurn, hstep, preludeTurn_gate_held .xchge hhalf rfl hheld]
  · simp [advance, hbuild, buildTurn, hstep, buildProbeTurn, hsub, hgated, hheld]
  · simp [advance, hbuild, buildTurn, hstep, List.getElem?_eq_getElem hframe, buildFrameTurn, hsub,
      preludeHalf_eq_gateIf _ _ hhalf, cfgGated_eq, hgated, hheld]

/-- Settles O25, by induction on the number of looks: each leaves the same gate before it. -/
theorem coopGateHolds : Obligations.CoopGateHolds := by
  intro k
  induction k with
  | zero =>
    intro s rs _ _ _ hready
    have hsame : s.env.ready = rs := hready
    rw [← hsame]
    rfl
  | succ k ih =>
    intro s rs hinbox hcoop hgate hready
    have hlook : s.env.ready = .deasserted :: (List.replicate k .deasserted ++ rs) := hready
    have hstep := (step_eq_advance hinbox).trans (advance_gate_held hgate (gate_deasserted_coop hlook hcoop))
    rw [steps_succ k hstep]
    exact ih _ rs hinbox hcoop hgate rfl

/-! ### Frames on the receive side of the link (log entry 3) -/

/-- Settles O47: the layouts of R80 and R89, written out. -/
theorem presentedFramesWaitOnTheLink : Obligations.PresentedFramesWaitOnTheLink :=
  fun _ _ _ => ⟨rfl, rfl, rfl, rfl, rfl, rfl, rfl, rfl, rfl⟩

/-- A buffer made of the bytes that came in holds them. -/
theorem holds_ofBytes (gen : Nat) (bytes : List Byte) : Holds (Buf.ofBytes gen bytes) bytes :=
  fun k hk => Buf.read_ofBytes gen bytes k hk

/-- Settles O48: the bytes are the next answer, and an answer of the transfer's length is received as it is. -/
theorem presentedFrameIsReceived : Obligations.PresentedFrameIsReceived := by
  intro i bytes s t henc hnone hexec
  cases (exec_wire s henc).symm.trans hexec
  have hanswer : (presentOnLink bytes s).env.xfer = .answers bytes :: [] := by simp [hnone]
  refine ⟨_, xfer_answers hanswer, ?_, rfl, rfl, ?_⟩
  · rw [receive_rxbuf, received_exact]
    exact holds_ofBytes _ bytes
  · rw [receive_trace, received_exact]
    rfl

end Sys2Proof.Machine

/-! PROOFS. The runs of ESC, XCHG, WR and XCHGE. First the prelude, the transfer and the probe's gate as functions of the state they find;
then the run of each operation up to the state `Exchanged` from which its last turns are taken; then the obligations. -/

namespace Sys2Proof.Machine

open Host (Outcome)

/-! ### The gate, the prelude and the transfer that succeed (R130 to R133) -/

/-- Where there is a gate, the next look finds the line asserted. -/
def GateOpen (gated : Bool) (s : State) : Prop := gated = true → s.env.ready.head? = some .asserted

/-- The looks still to come after a gate that has passed. -/
def looksAfter (gated : Bool) (ready : List ReadyDraw) : List ReadyDraw := if gated then ready.tail else ready

/-- The state after a gate that has passed. -/
def afterGate (gated : Bool) (s : State) : State :=
  { s with env := { s.env with ready := looksAfter gated s.env.ready }, trace := s.trace ++ gateEvents gated }

/-- The state after a prelude that has passed. -/
def afterPrelude (gated : Bool) (d : Option Duration) (s : State) : State :=
  { s with
    env := { s.env with ready := looksAfter gated s.env.ready }
    trace := s.trace ++ preludeEvents s.params.gateOrder gated d }

/-- The state after a transfer that is answered with `rx`, as long as the transfer. -/
def answered (rx : List Byte) (xs : List XferDraw) (s : State) : State :=
  { s with
    rxbuf := Buf.ofBytes s.fresh rx
    fresh := s.fresh + 1
    env := { s.env with xfer := xs }
    trace := s.trace ++ [.xfer (slice s.txbuf.read 0 rx.length) rx] }

@[simp] theorem afterPrelude_operands (gated : Bool) (d : Option Duration) (s : State) :
    (afterPrelude gated d s).operands = s.operands := rfl
@[simp] theorem answered_operands (rx : List Byte) (xs : List XferDraw) (s : State) :
    (answered rx xs s).operands = s.operands := rfl

section SameRegisters

/-- What an exchange leaves alone, from one state to the next. -/
theorem SameRegisters.trans {s t u : State} (h1 : SameRegisters s t) (h2 : SameRegisters t u) : SameRegisters s u := by
  obtain ⟨hparams, hslot, hphase, hident, hsetup, htaint, hout, hinbox⟩ := h1
  obtain ⟨hparams', hslot', hphase', hident', hsetup', htaint', hout', hinbox'⟩ := h2
  exact ⟨hparams'.trans hparams, hslot'.trans hslot, hphase'.trans hphase, hident'.trans hident, hsetup'.trans hsetup,
    htaint'.trans htaint, hout'.trans hout, hinbox'.trans hinbox⟩

theorem SameRegisters.inbox {s t : State} (h : SameRegisters s t) : t.inbox = s.inbox := by
  obtain ⟨-, -, -, -, -, -, -, hinbox⟩ := h
  exact hinbox

variable (s : State)

theorem seqTo_registers (q : Seq) : SameRegisters s (seqTo q s) := ⟨rfl, rfl, rfl, rfl, rfl, rfl, rfl, rfl⟩

theorem afterGate_registers (gated : Bool) : SameRegisters s (afterGate gated s) := ⟨rfl, rfl, rfl, rfl, rfl, rfl, rfl, rfl⟩

theorem afterPrelude_registers (gated : Bool) (d : Option Duration) : SameRegisters s (afterPrelude gated d s) :=
  ⟨rfl, rfl, rfl, rfl, rfl, rfl, rfl, rfl⟩

theorem answered_registers (rx : List Byte) (xs : List XferDraw) : SameRegisters s (answered rx xs s) :=
  ⟨rfl, rfl, rfl, rfl, rfl, rfl, rfl, rfl⟩

end SameRegisters

section Passing

variable {s : State} {gated : Bool} {d : Option Duration}

theorem gateOpen_of_cons {rs : List ReadyDraw} (h : gated = true → s.env.ready = .asserted :: rs) : GateOpen gated s :=
  fun hg => by rw [h hg]; rfl

theorem gateIf_open (h : GateOpen gated s) : gateIf gated s = .passed (afterGate gated s) := by
  cases gated with
  | false => simp [afterGate, looksAfter, gateEvents]
  | true =>
    obtain ⟨rest, hready⟩ := List.head?_eq_some_iff.1 (h rfl)
    rw [gateIf_true, gate_asserted hready]
    simp [afterGate, looksAfter, gateEvents, emit, hready]

theorem delayIf_eq (d : Option Duration) (s : State) : delayIf d s = { s with trace := s.trace ++ delayEvents d } := by
  cases d with
  | none => simp [delayIf, delayEvents]
  | some d => rfl

/-- In either order, the first half of a prelude leads to the second, and that one to the state after the prelude; the sequencer's position
in between is not looked at. -/
theorem preludeHalves_pass (d : Option Duration) (h : GateOpen gated s) :
    ∃ u, preludeHalf gated d false s = .passed u ∧ u.inbox = s.inbox ∧ u.operands = s.operands ∧ u.params = s.params ∧
      ∀ q, preludeHalf gated d true (seqTo q u) = .passed (seqTo q (afterPrelude gated d s)) := by
  cases horder : s.params.gateOrder with
  | beforeDelay =>
    refine ⟨afterGate gated s, ?_, rfl, rfl, rfl, fun q => ?_⟩
    · simp only [preludeHalf, horder, gateIf_open h]
    · have hsecond : (seqTo q (afterGate gated s)).params.gateOrder = .beforeDelay := horder
      simp only [preludeHalf, hsecond, delayIf_eq]
      simp [afterPrelude, afterGate, seqTo, horder, preludeEvents]
  | afterDelay =>
    refine ⟨delayIf d s, ?_, ?_, ?_, ?_, fun q => ?_⟩
    · simp only [preludeHalf, horder]
    · exact (delayIf_moved d s).inbox
    · exact (delayIf_moved d s).operands
    · exact (delayIf_moved d s).params
    · rw [delayIf_eq]
      have hsecond : (seqTo q { s with trace := s.trace ++ delayEvents d }).params.gateOrder = .afterDelay := horder
      have hopen : GateOpen gated (seqTo q { s with trace := s.trace ++ delayEvents d }) := h
      simp only [preludeHalf, hsecond, gateIf_open hopen]
      simp [afterPrelude, afterGate, seqTo, horder, preludeEvents]

/-- The answer stands in `RXBUF`. -/
theorem answered_holds (rx : List Byte) (xs : List XferDraw) (s : State) : Holds (answered rx xs s).rxbuf rx := holds_ofBytes s.fresh rx

theorem xfer_answered {rx : List Byte} {xs : List XferDraw} (h : s.env.xfer = .answers rx :: xs) :
    xfer rx.length s = .passed (answered rx xs s) := by
  rw [xfer_answers h]
  simp [receive, received_exact, answered, emit]

end Passing

/-! ### A prelude whose gate finds the line deasserted in Sync (R203) -/

/-- The state after the look that fails the prelude: the delay has been waited exactly under AfterDelay. -/
def afterRefusedPrelude (d : Option Duration) (s : State) : State :=
  { s with env := { s.env with ready := s.env.ready.tail }, trace := s.trace ++ notReadyEvents s.params.gateOrder d }

theorem afterRefusedPrelude_registers (d : Option Duration) (s : State) : SameRegisters s (afterRefusedPrelude d s) :=
  ⟨rfl, rfl, rfl, rfl, rfl, rfl, rfl, rfl⟩

section Failing

variable {s : State} {rs : List ReadyDraw}

theorem gate_notReady (hsync : s.params.sched = .sync) (hready : s.env.ready = .deasserted :: rs) :
    gate s = .failed .moduleUnavailable
      { s with env := { s.env with ready := s.env.ready.tail }, trace := s.trace ++ [.ready .deasserted] } := by
  rw [gate_deasserted_sync hready hsync, hready]
  rfl

/-- Under BeforeDelay the first half fails. -/
theorem preludeHalf_notReady_first (d : Option Duration) (hsync : s.params.sched = .sync) (hready : s.env.ready = .deasserted :: rs)
    (horder : s.params.gateOrder = .beforeDelay) :
    preludeHalf true d false s = .failed .moduleUnavailable (afterRefusedPrelude d s) := by
  simp only [preludeHalf, horder, gateIf_true, gate_notReady hsync hready, afterRefusedPrelude, notReadyEvents]

/-- Under AfterDelay the delay is waited, and the second half fails. -/
theorem preludeHalf_notReady_second (d : Option Duration) (q : Seq) (hsync : s.params.sched = .sync)
    (hready : s.env.ready = .deasserted :: rs) (horder : s.params.gateOrder = .afterDelay) :
    preludeHalf true d false s = .passed (delayIf d s) ∧
      preludeHalf true d true (seqTo q (delayIf d s)) = .failed .moduleUnavailable (seqTo q (afterRefusedPrelude d s)) := by
  refine ⟨by simp only [preludeHalf, horder], ?_⟩
  rw [delayIf_eq]
  have hsecond : (seqTo q { s with trace := s.trace ++ delayEvents d }).params.gateOrder = .afterDelay := horder
  have hgate := gate_notReady (s := seqTo q { s with trace := s.trace ++ delayEvents d }) hsync hready
  simp only [preludeHalf, hsecond, gateIf_true, hgate]
  simp [afterRefusedPrelude, seqTo, horder, notReadyEvents]

end Failing

/-! ### The turns that XCHG, WR and XCHGE share -/

/-- Wherever the sequencer stands, with no input to come it takes its turn. -/
theorem step_seqTo {s : State} (q : Seq) (h : s.inbox = []) : step (seqTo q s) = advance (seqTo q s) := step_eq_advance h

/-- Whether the prelude of an exchange has a gate (R136, R137, R181). -/
def exchangeGated (p : Params) (op : Op) : Bool := if op = .wr then p.wrReadyGate else true

section Exchanges

variable {s : State} {op : Op} {last : Nat}

theorem advance_prelude (hlast : exchangeLast op = some last) (hop : s.seq.op = some op) (hstep : s.seq.step = 1) :
    advance s = .next (preludeTurn op (exchangeGated s.params op) s) := by
  unfold exchangeLast at hlast
  unfold advance
  rw [hop]
  split at hlast
  · simp [xchgTurn, hstep, exchangeGated]
  · simp [wrTurn, hstep, exchangeGated]
  · simp [xchgeTurn, hstep, exchangeGated]
  · cases hlast

theorem advance_xfer (hlast : exchangeLast op = some last) (hop : s.seq.op = some op) (hstep : s.seq.step = 2) :
    advance s = .next (xferTurn op s) := by
  unfold exchangeLast at hlast
  unfold advance
  rw [hop]
  split at hlast
  · simp [xchgTurn, hstep]
  · simp [wrTurn, hstep]
  · simp [xchgeTurn, hstep]
  · cases hlast

/-- XCHG and XCHGE check the response; WR does not. -/
theorem advance_check (hlast : exchangeLast op = some last) (h4 : 4 ≤ last) (hop : s.seq.op = some op) (hstep : s.seq.step = 3) :
    advance s = .next (checkTurn op s) := by
  unfold exchangeLast at hlast
  unfold advance
  rw [hop]
  split at hlast
  · simp [xchgTurn, hstep]
  · cases hlast
    omega
  · simp [xchgeTurn, hstep]
  · cases hlast

/-- The prelude of an exchange, in two turns. -/
theorem steps_prelude (hlast : exchangeLast op = some last) (hseq : s.seq = Seq.start op 1) (hinbox : s.inbox = [])
    (hopen : GateOpen (exchangeGated s.params op) s) :
    steps 2 s = .next (seqTo (Seq.start op 2) (afterPrelude (exchangeGated s.params op) s.operands.delay s)) := by
  obtain ⟨u, hfirst, hin, hoperands, hparams, hsecond⟩ := preludeHalves_pass s.operands.delay hopen
  have h1 : step s = .next (seqTo { Seq.start op 1 with second := true } u) := by
    rw [step_eq_advance hinbox, advance_prelude hlast (by rw [hseq]; rfl) (by rw [hseq]; rfl), preludeTurn, hseq]
    simp [Seq.start, hfirst]
  refine (steps_succ 1 h1).trans (steps_one ?_)
  rw [step_seqTo _ (hin.trans hinbox), advance_prelude hlast rfl rfl, preludeTurn]
  simp only [seqTo_seq, seqTo_params, seqTo_operands, hoperands, hparams, hsecond, settle_passed]
  rfl

theorem step_exchange_xfer {rx : List Byte} {xs : List XferDraw} (hlast : exchangeLast op = some last)
    (hseq : s.seq = Seq.start op 2) (hinbox : s.inbox = []) (hx : s.env.xfer = .answers rx :: xs)
    (hlen : rx.length = s.operands.len.toNat) : step s = .next (seqTo (Seq.start op 3) (answered rx xs s)) := by
  rw [step_eq_advance hinbox, advance_xfer hlast (by rw [hseq]; rfl) (by rw [hseq]; rfl), xferTurn, ← hlen, xfer_answered hx,
    settle_passed]

variable {i : Instr} {a : XferArgs}

/-- The state of an exchange that has been accepted (R136, step 0). -/
def startExchange (op : Op) (a : XferArgs) (s : State) : State :=
  seqTo (Seq.start op 1)
    (assemble a.len.toNat a.dir a.mid a.mt a.midx a.payload { s with operands := s.operands.withXferArgs a })

/-- The three exchanges, as requests. -/
def IsExchange (i : Instr) (op : Op) (a : XferArgs) : Prop :=
  (i = .xchg a ∧ op = .xchg) ∨ (i = .wr a ∧ op = .wr) ∨ (i = .xchge a ∧ op = .xchge)

theorem IsExchange.exists_last (hi : IsExchange i op a) : ∃ last, exchangeLast op = some last := by
  rcases hi with ⟨-, rfl⟩ | ⟨-, rfl⟩ | ⟨-, rfl⟩ <;> exact ⟨_, rfl⟩

theorem exec_exchange (hi : IsExchange i op a) (hready : Ready s) (hphase : s.phase = .bound) (htaint : s.taint = false)
    (hargs : LegalXfer s a) : exec i s = .next (startExchange op a s) := by
  have hadmits (o : Op) (ho : o = .xchg ∨ o = .wr ∨ o = .xchge) : refusal s o (badXfer s a) = none :=
    (refusal_exchange _ ho hready hphase htaint).trans ((badXfer_none s a).2 hargs)
  rcases hi with ⟨rfl, rfl⟩ | ⟨rfl, rfl⟩ | ⟨rfl, rfl⟩
  · exact congrArg Outcome.next (ifAdmitted_accepted (hadmits _ (.inl rfl)))
  · exact congrArg Outcome.next (ifAdmitted_accepted (hadmits _ (.inr (.inl rfl))))
  · exact congrArg Outcome.next (ifAdmitted_accepted (hadmits _ (.inr (.inr rfl))))

theorem startExchange_slice (op : Op) (hargs : LegalXfer s a) :
    slice (startExchange op a s).txbuf.read 0 a.len.toNat = requestFrame s.slot a := by
  obtain ⟨hlen, hpayload, hdir, -⟩ := hargs
  have h := frameImage_slice s.fresh s.slot a.len.toNat a.dir a.mid a.mt a.midx a.payload hlen.1 hpayload
  rw [hdir] at h
  rw [startExchange, hdir]
  exact h

theorem startExchange_frameStarted (op : Op) (hargs : LegalXfer s a) : FrameStarted s (startExchange op a s) op a :=
  ⟨rfl, holds_of_slice_eq (startExchange_slice op hargs)⟩

theorem startExchange_registers (op : Op) (a : XferArgs) (s : State) : SameRegisters s (startExchange op a s) :=
  ⟨rfl, rfl, rfl, rfl, rfl, rfl, rfl, rfl⟩

/-- The transfer of an exchange is over: the response stands in `RXBUF`, and the events of the prelude and of the transfer have been
emitted. -/
structure Exchanged (s t v : State) (op : Op) (a : XferArgs) (rx : List Byte) (xs : List XferDraw) : Prop where
  seq : v.seq = Seq.start op 3
  inbox : v.inbox = []
  args : v.operands.xferArgs = a
  operands : v.operands = t.operands
  txbuf : v.txbuf = t.txbuf
  rxbuf : Holds v.rxbuf rx
  registers : SameRegisters s v
  trace : v.trace = s.trace ++ (preludeEvents s.params.gateOrder (exchangeGated s.params op) a.delay ++
    [.xfer (requestFrame s.slot a) rx])
  env : v.env = { s.env with ready := looksAfter (exchangeGated s.params op) s.env.ready, xfer := xs }

/-- Accepted, past its gate and answered, an exchange has made its transfer after three turns. -/
theorem exchange_reaches_transfer {rx : List Byte} {xs : List XferDraw} (hi : IsExchange i op a) (h : ExchangeReady s a rx xs)
    (hopen : GateOpen (exchangeGated s.params op) s) :
    ∃ t v, exec i s = .next t ∧ FrameStarted s t op a ∧ steps 3 t = .next v ∧ Exchanged s t v op a rx xs := by
  obtain ⟨hready, hphase, htaint, hinbox, hargs, hx, hlen⟩ := h
  obtain ⟨last, hlast⟩ := hi.exists_last
  have hstart := startExchange_registers op a s
  have hmid := (hstart.trans (afterPrelude_registers _ (exchangeGated s.params op) a.delay)).trans
    (seqTo_registers _ (Seq.start op 2))
  have hend := (hmid.trans (answered_registers _ rx xs)).trans (seqTo_registers _ (Seq.start op 3))
  have hprelude := steps_prelude (s := startExchange op a s) hlast rfl (hstart.inbox.trans hinbox) hopen
  have hxfer := step_exchange_xfer hlast rfl (hmid.inbox.trans hinbox) (rx := rx) (xs := xs) hx hlen
  have hrun := (steps_add (k := 1) hprelude).trans (steps_one hxfer)
  have hframe : slice (startExchange op a s).txbuf.read 0 rx.length = requestFrame s.slot a := by
    rw [hlen]
    exact startExchange_slice op hargs
  refine ⟨_, _, exec_exchange hi hready hphase htaint hargs, startExchange_frameStarted op hargs, hrun,
    rfl, hend.inbox.trans hinbox, rfl, rfl, rfl, answered_holds rx xs _, hend, ?_, rfl⟩
  rw [← hframe, ← List.append_assoc]
  rfl

end Exchanges

/-! ### The last turns of an exchange -/

section Ends

variable {s t v : State} {op : Op} {a : XferArgs} {rx : List Byte} {xs : List XferDraw} {last : Nat}

/-- An error leaves the registers alone where it leaves the phase. -/
theorem raise_registers {x : State} (h : SameRegisters s x) (hphase : phaseAfterError op s.phase = s.phase) (e : Result) :
    SameRegisters s (raise op e x) := by
  obtain ⟨hparams, hslot, hsame, hident, hsetup, htaint, hout, hinbox⟩ := h
  refine ⟨hparams, hslot, ?_, hident, hsetup, htaint, hout, hinbox⟩
  rw [raise_phase, hsame, hphase]

/-- An operation ends with an error from a state that has left the registers alone. -/
theorem ended_raise {x : State} {events : List Event} (hregisters : SameRegisters s x) (hoperands : x.operands = t.operands)
    (htxbuf : x.txbuf = t.txbuf) (htrace : x.trace = s.trace ++ events) (hphase : phaseAfterError op s.phase = s.phase) (e : Result) :
    Ended s t (raise op e x) op e events :=
  ⟨raise_registers hregisters hphase e, hoperands, htxbuf, rfl, rfl, congrArg (· ++ _) htrace⟩

theorem scrubRx_registers (s : State) : SameRegisters s (scrubRx s) := ⟨rfl, rfl, rfl, rfl, rfl, rfl, rfl, rfl⟩

theorem IsExchange.phaseAfterError {i : Instr} (hi : IsExchange i op a) (p : Phase) : phaseAfterError op p = p := by
  obtain ⟨last, hlast⟩ := hi.exists_last
  exact phaseAfterError_of_ne p (exchangeLast_reset hlast) (exchangeLast_build hlast)

/-- The exchange ends at a later position of the same state, with Ok. -/
theorem Exchanged.ended_ok (h : Exchanged s t v op a rx xs) (q : Seq) (r : ResVal) :
    Ended s t (finishOk op r (seqTo q v)) op .ok
      (preludeEvents s.params.gateOrder (exchangeGated s.params op) a.delay ++ [.xfer (requestFrame s.slot a) rx]) :=
  ⟨h.registers, h.operands, h.txbuf, rfl, rfl, congrArg (· ++ _) h.trace⟩

/-- The exchange ends at a later position of the same state, with an error of the response. -/
theorem Exchanged.ended_error {i : Instr} (h : Exchanged s t v op a rx xs) (hi : IsExchange i op a) (q : Seq) (e : Result) :
    Ended s t (raiseScrubbed op e (seqTo q v)) op e
      (preludeEvents s.params.gateOrder (exchangeGated s.params op) a.delay ++ [.xfer (requestFrame s.slot a) rx]) :=
  ended_raise ((h.registers.trans (seqTo_registers v q)).trans (scrubRx_registers _)) h.operands h.txbuf h.trace
    (hi.phaseAfterError _) e

theorem Exchanged.len (h : Exchanged s t v op a rx xs) : v.operands.len = a.len := congrArg XferArgs.len h.args

theorem Exchanged.responseError_eq (h : Exchanged s t v op a rx xs) (hlen : rx.length = a.len.toNat) (h7 : 7 ≤ a.len.toNat) :
    responseError v.rxbuf.read v.operands.len.toNat = responseError (viewOf rx) a.len.toNat := by
  rw [h.len]
  exact responseError_congr h7 fun k hk => h.rxbuf k (hlen ▸ hk)

theorem Exchanged.step_check_failed {e : Result} (h : Exchanged s t v op a rx xs) (hlast : exchangeLast op = some last)
    (h4 : 4 ≤ last) (hlen : rx.length = a.len.toNat) (h7 : 7 ≤ a.len.toNat) (he : responseError (viewOf rx) a.len.toNat = some e) :
    step v = .next (raiseScrubbed op e v) := by
  rw [step_eq_advance h.inbox, advance_check hlast h4 (by rw [h.seq]; rfl) (by rw [h.seq]; rfl), checkTurn,
    h.responseError_eq hlen h7, he]

theorem Exchanged.step_check_passed (h : Exchanged s t v op a rx xs) (hlast : exchangeLast op = some last)
    (h4 : 4 ≤ last) (hlen : rx.length = a.len.toNat) (h7 : 7 ≤ a.len.toNat)
    (hvalid : validateResponse (viewOf rx) a.len.toNat = true) :
    step v = .next (seqTo (Seq.start op 4) v) := by
  rw [step_eq_advance h.inbox, advance_check hlast h4 (by rw [h.seq]; rfl) (by rw [h.seq]; rfl), checkTurn,
    h.responseError_eq hlen h7, (responseError_none _ _).2 hvalid]

/-- The payload that is delivered is that of the response. -/
theorem Exchanged.payload (h : Exchanged s t v op a rx xs) (hlen : rx.length = a.len.toNat) :
    rxPayload v a.len.toNat = slice (viewOf rx) 6 (a.len.toNat - 1) :=
  slice_congr fun k _ hk => h.rxbuf k (by rw [offChecksum_eq] at hk; omega)

/-- The bytes of the echo, of a response as long as the frame. -/
theorem Exchanged.checkEcho_eq (h : Exchanged s t v op a rx xs) (h7 : 7 ≤ rx.length) :
    checkEcho v.rxbuf.read v.operands.mid v.operands.mt v.operands.midx = checkEcho (viewOf rx) a.mid a.mt a.midx := by
  rw [← h.args]
  exact checkEcho_congr fun k hk => h.rxbuf k (by omega)

end Ends

/-! ### XCHG, WR and XCHGE -/

/-- Settles O28: three turns to the transfer, the check, and the end. -/
theorem xchgDeliversThePayload : Obligations.XchgDeliversThePayload := by
  intro s a rx rs xs h hready hvalid
  obtain ⟨t, v, hexec, hstarted, hrun, hv⟩ :=
    exchange_reaches_transfer (i := .xchg a) (op := .xchg) (.inl ⟨rfl, rfl⟩) h (gateOpen_of_cons fun _ => hready)
  obtain ⟨-, -, -, -, ⟨hlegal, -⟩, -, hlen⟩ := h
  have hcheck := hv.step_check_passed (last := 4) rfl (Nat.le_refl 4) hlen hlegal.1 hvalid
  have hfinish : step (seqTo (Seq.start .xchg 4) v) =
      .next (finishOk .xchg (.payload (rxPayload v a.len.toNat)) (seqTo (Seq.start .xchg 4) v)) := by
    rw [step_seqTo _ hv.inbox, ← hv.len]
    rfl
  refine ⟨t, _, hexec, hstarted, ?_, hv.ended_ok (Seq.start .xchg 4) (.payload (rxPayload v a.len.toNat)), ?_, hv.rxbuf, ?_⟩
  · exact ((steps_add (k := 2) hrun).trans (steps_succ 1 hcheck)).trans (steps_one hfinish)
  · rw [finishOk_res, hv.payload hlen]
  · rw [finishOk_env, seqTo_env, hv.env, hready]
    rfl

/-- Settles O31: WR does not look at the response. -/
theorem wrIgnoresTheResponse : Obligations.WrIgnoresTheResponse := by
  intro s a rx rs xs h hready
  obtain ⟨t, v, hexec, hstarted, hrun, hv⟩ :=
    exchange_reaches_transfer (i := .wr a) (op := .wr) (.inr (.inl ⟨rfl, rfl⟩)) h (gateOpen_of_cons hready)
  have hfinish : step v = .next (finishOk .wr .nothing (scrubRx v)) := by
    rw [step_eq_advance hv.inbox, advance, hv.seq]
    simp [Seq.start, wrTurn, hv.seq]
  obtain ⟨hregisters, hoperands, htxbuf, -, -, htrace⟩ := hv.ended_ok (Seq.start .wr 3) .nothing
  exact ⟨t, _, hexec, hstarted, (steps_add (k := 1) hrun).trans (steps_one hfinish),
    ⟨hregisters, hoperands, htxbuf, rfl, rfl, htrace⟩, rfl⟩

/-- The turn of XCHGE after its check: the echo of the request. -/
theorem step_echo {s t v : State} {a : XferArgs} {rx : List Byte} {xs : List XferDraw} (h : Exchanged s t v .xchge a rx xs)
    (h7 : 7 ≤ rx.length) :
    step (seqTo (Seq.start .xchge 4) v) = .next (if checkEcho (viewOf rx) a.mid a.mt a.midx then seqTo (Seq.start .xchge 5) v
      else raiseScrubbed .xchge .unableToSerDe (seqTo (Seq.start .xchge 4) v)) := by
  rw [step_seqTo _ h.inbox, ← h.checkEcho_eq h7]
  rfl

/-- Settles O34. -/
theorem xchgeDeliversAnEchoedPayload : Obligations.XchgeDeliversAnEchoedPayload := by
  intro s a rx rs xs h hready hvalid hecho
  obtain ⟨t, v, hexec, hstarted, hrun, hv⟩ :=
    exchange_reaches_transfer (i := .xchge a) (op := .xchge) (.inr (.inr ⟨rfl, rfl⟩)) h (gateOpen_of_cons fun _ => hready)
  obtain ⟨-, -, -, -, ⟨hlegal, -⟩, -, hlen⟩ := h
  have hcheck := hv.step_check_passed (last := 5) rfl (by omega) hlen hlegal.1 hvalid
  have hechoed := step_echo hv (hlen ▸ hlegal.1)
  rw [if_pos hecho] at hechoed
  have hfinish : step (seqTo (Seq.start .xchge 5) v) =
      .next (finishOk .xchge (.payload (rxPayload v a.len.toNat)) (seqTo (Seq.start .xchge 5) v)) := by
    rw [step_seqTo _ hv.inbox, ← hv.len]
    rfl
  refine ⟨t, _, hexec, hstarted, ?_, hv.ended_ok (Seq.start .xchge 5) (.payload (rxPayload v a.len.toNat)), ?_, hv.rxbuf⟩
  · calc steps 6 t = steps 3 v := steps_add (k := 3) hrun
      _ = steps 2 _ := steps_succ 2 hcheck
      _ = steps 1 _ := steps_succ 1 hechoed
      _ = .next _ := steps_one hfinish
  · rw [finishOk_res, hv.payload hlen]

/-- Settles O35: the response passes the check and fails the echo. -/
theorem xchgeRejectsAForeignEcho : Obligations.XchgeRejectsAForeignEcho := by
  intro s a rx rs xs h hready hvalid hforeign
  obtain ⟨t, v, hexec, hstarted, hrun, hv⟩ :=
    exchange_reaches_transfer (i := .xchge a) (op := .xchge) (.inr (.inr ⟨rfl, rfl⟩)) h (gateOpen_of_cons fun _ => hready)
  obtain ⟨-, -, -, -, ⟨hlegal, -⟩, -, hlen⟩ := h
  have hcheck := hv.step_check_passed (last := 5) rfl (by omega) hlen hlegal.1 hvalid
  have hechoed := step_echo hv (hlen ▸ hlegal.1)
  have hno : ¬checkEcho (viewOf rx) a.mid a.mt a.midx = true := by
    rw [checkEcho_iff]
    rintro ⟨-, hmid, hmt, hmidx⟩
    rcases hforeign with h3 | h4 | h5
    · exact h3 hmid
    · exact h4 hmt
    · exact h5 hmidx
  rw [if_neg hno] at hechoed
  refine ⟨t, _, hexec, hstarted, ?_, hv.ended_error (i := .xchge a) (.inr (.inr ⟨rfl, rfl⟩)) (Seq.start .xchge 4) .unableToSerDe⟩
  exact ((steps_add (k := 2) hrun).trans (steps_succ 1 hcheck)).trans (steps_one hechoed)

/-! ### ESC (R135) -/

section Probe

variable {s : State} {P : Len}

/-- The state of an ESC that has been accepted (R135, step 0). -/
def startEsc (P : Len) (s : State) : State :=
  seqTo (Seq.start .esc 1) (assembleProbe P.toNat { s with operands := { s.operands with probeLen := P } })

theorem exec_esc (h : ProbeReady s) (hP : LegalLen s P) : exec (.esc P) s = .next (startEsc P s) :=
  congrArg Outcome.next (ifAdmitted_accepted ((refusal_probe _ (.inl rfl) h).trans (badLen_none hP)))

theorem probeImage_holds (gen : Nat) {n : Nat} (c : Bool) (h7 : 7 ≤ n) : Holds (probeImage gen n c) (probeOut n c) :=
  holds_of_slice_eq (probeImage_slice gen n c h7)

theorem step_esc_gate (hseq : s.seq = Seq.start .esc 1) (hinbox : s.inbox = []) (hopen : GateOpen s.params.escReadyGate s) :
    step s = .next (seqTo (Seq.start .esc 2) (afterGate s.params.escReadyGate s)) := by
  rw [step_eq_advance hinbox, advance, hseq]
  simp [Seq.start, escTurn, hseq, gateIf_open hopen]

theorem step_esc_xfer {rx : List Byte} {xs : List XferDraw} (hseq : s.seq = Seq.start .esc 2) (hinbox : s.inbox = [])
    (hx : s.env.xfer = .answers rx :: xs) (hlen : rx.length = s.operands.probeLen.toNat) :
    step s = .next (seqTo (Seq.start .esc 3) (answered rx xs s)) := by
  rw [step_eq_advance hinbox, advance, hseq]
  simp [Seq.start, escTurn, hseq, ← hlen, xfer_answered hx]

theorem step_esc_end (hseq : s.seq = Seq.start .esc 3) (hinbox : s.inbox = []) :
    step s = .next (finishOk .esc (.frame (slice s.rxbuf.read 0 s.operands.probeLen.toNat)) s) := by
  rw [step_eq_advance hinbox, advance, hseq]
  simp [Seq.start, escTurn, hseq]

end Probe

/-- A slice of a buffer that holds bytes is those bytes. -/
theorem slice_of_holds {b : Buf} {bytes : List Byte} (h : Holds b bytes) : slice b.read 0 bytes.length = bytes :=
  slice_eq_list rfl fun k hk => by rw [Nat.zero_add]; exact h k hk

/-- Settles O27: the gate, the transfer of the probe, and its whole response. -/
theorem escReturnsTheRawResponse : Obligations.EscReturnsTheRawResponse := by
  intro s P rx rs xs hprobe hP hinbox hx hlen hready
  have hstart : SameRegisters s (startEsc P s) := ⟨rfl, rfl, rfl, rfl, rfl, rfl, rfl, rfl⟩
  have hmid := (hstart.trans (afterGate_registers _ s.params.escReadyGate)).trans (seqTo_registers _ (Seq.start .esc 2))
  have hend := (hmid.trans (answered_registers _ rx xs)).trans (seqTo_registers _ (Seq.start .esc 3))
  have hgate := step_esc_gate (s := startEsc P s) rfl (hstart.inbox.trans hinbox) (gateOpen_of_cons hready)
  have hxfer := step_esc_xfer rfl (hmid.inbox.trans hinbox) (rx := rx) (xs := xs) hx hlen
  have hfinish := step_esc_end rfl (hend.inbox.trans hinbox)
  have hrun := ((steps_succ 2 hgate).trans (steps_succ 1 hxfer)).trans (steps_one hfinish)
  have hframe : slice (startEsc P s).txbuf.read 0 rx.length = probeOut P.toNat s.params.probeTxChecksum := by
    rw [hlen]
    exact probeImage_slice _ _ _ hP.1
  have hres : slice (Buf.ofBytes (startEsc P s).fresh rx).read 0 P.toNat = rx := by
    rw [← hlen]
    exact slice_of_holds (holds_ofBytes _ rx)
  refine ⟨_, _, exec_esc hprobe hP, rfl, probeImage_holds _ _ hP.1, hrun, ⟨hend, rfl, rfl, rfl, rfl, ?_⟩,
    congrArg ResVal.frame hres, answered_holds rx xs _, rfl⟩
  rw [← hframe, ← List.append_assoc]
  rfl

end Sys2Proof.Machine

/-! PROOFS. The run of BUILD (R161): the probe and its response (`Probed`), one configuration frame (`FrameSent`), and any number of them
by induction (`FramesSent`). -/

namespace Sys2Proof.Machine

open Host (Outcome)

/-! ### Legal operands depend on the parameters alone -/

theorem LegalLen.congr {s t : State} {L : Len} (h : LegalLen s L) (hparams : t.params = s.params) : LegalLen t L := by
  unfold LegalLen
  rwa [hparams]

theorem LegalCfg.congr {s t : State} {f : CfgFrame} (h : LegalCfg s f) (hparams : t.params = s.params) : LegalCfg t f := by
  obtain ⟨hlen, hpayload, hmt⟩ := h
  exact ⟨hlen.congr hparams, hpayload, hmt⟩

/-! ### The probe of BUILD -/

section Probe

variable {s : State} {idexp : Ident} {P : Len} {cfg : List CfgFrame}

/-- The state of a BUILD that has been accepted. -/
def startBuild (idexp : Ident) (P : Len) (cfg : List CfgFrame) (s : State) : State :=
  seqTo (seqBuildProbe 1)
    (assembleProbe P.toNat { s with operands := { s.operands with idexp := idexp, probeLen := P, cfg := cfg } })

theorem exec_build (h : ProbeReady s) (hP : LegalLen s P) (hne : cfg ≠ []) (hcfg : ∀ f ∈ cfg, LegalCfg s f) :
    exec (.build idexp P cfg) s = .next (startBuild idexp P cfg s) :=
  congrArg Outcome.next (ifAdmitted_accepted ((refusal_probe _ (.inr rfl) h).trans ((badBuild_none s P cfg).2 ⟨hP, hne, hcfg⟩)))

theorem startBuild_buildStarted (hP : LegalLen s P) : BuildStarted s (startBuild idexp P cfg s) idexp P cfg :=
  ⟨rfl, probeImage_holds _ _ hP.1⟩

theorem startBuild_registers : SameRegisters s (startBuild idexp P cfg s) := ⟨rfl, rfl, rfl, rfl, rfl, rfl, rfl, rfl⟩

theorem step_build_gate (hseq : s.seq = seqBuildProbe 1) (hinbox : s.inbox = []) (hopen : GateOpen s.params.escReadyGate s) :
    step s = .next (seqTo (seqBuildProbe 2) (afterGate s.params.escReadyGate s)) := by
  rw [step_eq_advance hinbox, advance, hseq]
  simp [seqBuildProbe, buildTurn, buildProbeTurn, hseq, gateIf_open hopen]

theorem step_build_probe {rsp : List Byte} {xs : List XferDraw} (hseq : s.seq = seqBuildProbe 2) (hinbox : s.inbox = [])
    (hx : s.env.xfer = .answers rsp :: xs) (hlen : rsp.length = s.operands.probeLen.toNat) :
    step s = .next (seqTo (Seq.start .build 2) (answered rsp xs s)) := by
  rw [step_eq_advance hinbox, advance, hseq]
  simp [seqBuildProbe, buildTurn, buildProbeTurn, hseq, ← hlen, xfer_answered hx]

/-- The probe has been sent and answered; the identity is looked at next. -/
structure Probed (s t v : State) (P : Len) (rsp : List Byte) (xs : List XferDraw) : Prop where
  seq : v.seq = Seq.start .build 2
  registers : SameRegisters s v
  operands : v.operands = t.operands
  txbuf : v.txbuf = t.txbuf
  rxbuf : Holds v.rxbuf rsp
  trace : v.trace = s.trace ++ (gateEvents s.params.escReadyGate ++ [.xfer (probeOut P.toNat s.params.probeTxChecksum) rsp])
  env : v.env = { s.env with ready := looksAfter s.params.escReadyGate s.env.ready, xfer := xs }

/-- BUILD, accepted, with its gate open and its probe answered, comes to the identity in two turns. -/
theorem build_reaches_identity {rsp : List Byte} {xs : List XferDraw} (idexp : Ident) (cfg : List CfgFrame) (hP : LegalLen s P)
    (hinbox : s.inbox = []) (hx : s.env.xfer = .answers rsp :: xs) (hlen : rsp.length = P.toNat)
    (hopen : GateOpen s.params.escReadyGate s) :
    ∃ v, steps 2 (startBuild idexp P cfg s) = .next v ∧ Probed s (startBuild idexp P cfg s) v P rsp xs := by
  have hstart : SameRegisters s (startBuild idexp P cfg s) := startBuild_registers
  have hmid := (hstart.trans (afterGate_registers _ s.params.escReadyGate)).trans (seqTo_registers _ (seqBuildProbe 2))
  have hend := (hmid.trans (answered_registers _ rsp xs)).trans (seqTo_registers _ (Seq.start .build 2))
  have hgate := step_build_gate (s := startBuild idexp P cfg s) rfl (hstart.inbox.trans hinbox) hopen
  have hprobe := step_build_probe rfl (hmid.inbox.trans hinbox) (rsp := rsp) (xs := xs) hx hlen
  have hframe : slice (startBuild idexp P cfg s).txbuf.read 0 rsp.length = probeOut P.toNat s.params.probeTxChecksum := by
    rw [hlen]
    exact probeImage_slice _ _ _ hP.1
  refine ⟨_, (steps_succ 1 hgate).trans (steps_one hprobe), rfl, hend, rfl, rfl, answered_holds rsp xs _, ?_, rfl⟩
  rw [← hframe, ← List.append_assoc]
  rfl

end Probe

/-! ### The identity (R161, step 2) -/

section Identity

variable {s t v : State} {P : Len} {rsp : List Byte} {xs : List XferDraw}

theorem Probed.step_eq (h : Probed s t v P rsp xs) (hinbox : s.inbox = []) : step v = .next (identityTurn v) := by
  rw [step_eq_advance (h.registers.inbox.trans hinbox), advance, h.seq]
  simp [Seq.start, buildTurn, h.seq]

/-- The checksum and the identity that BUILD looks at are those of the response. -/
theorem Probed.probeError_eq (h : Probed s t v P rsp xs) (h9 : 9 ≤ P.toNat) (hlen : rsp.length = P.toNat) (c : Bool)
    (idexp : Ident) : probeError c v.rxbuf.read P.toNat idexp = probeError c (viewOf rsp) P.toNat idexp :=
  probeError_congr h9 fun k hk => h.rxbuf k (hlen ▸ hk)

theorem probeError_none {c : Bool} {b : View} {idexp : Ident} (hcks : c = true → cksOk b P.toNat = true) (hid : identOf b = idexp) :
    probeError c b P.toNat idexp = none := by
  have hno : (c && !cksOk b P.toNat) = false := by
    cases c with
    | false => rfl
    | true => rw [hcks rfl]; rfl
  simp [probeError, hno, hid]

theorem probeError_mismatch {c : Bool} {b : View} {idexp : Ident} (hcks : c = true → cksOk b P.toNat = true)
    (hid : identOf b ≠ idexp) : probeError c b P.toNat idexp = some .identityMismatch := by
  have hno : (c && !cksOk b P.toNat) = false := by
    cases c with
    | false => rfl
    | true => rw [hcks rfl]; rfl
  simp [probeError, hno, hid]

theorem probeError_checksum {b : View} (idexp : Ident) (hcks : cksOk b P.toNat = false) :
    probeError true b P.toNat idexp = some .checksumIncorrect := by
  simp [probeError, hcks]

end Identity

/-! ### One configuration frame (R161, step 3) -/

/-- The position of BUILD with `n` records before record `i`, or after the last one. -/
def framePos (n i : Nat) : Seq := if i < n then seqBuildFrame i 0 false else { Seq.start .build 4 with frame := i }

theorem framePos_lt {n i : Nat} (h : i < n) : framePos n i = seqBuildFrame i 0 false := if_pos h

section Frame

variable {s : State} {f : CfgFrame} {i : Nat}

theorem step_buildFrame {sub : Nat} {second : Bool} (hseq : s.seq = seqBuildFrame i sub second) (hinbox : s.inbox = [])
    (hf : s.operands.cfg[i]? = some f) : step s = buildFrameTurn f s := by
  rw [step_eq_advance hinbox, advance, hseq]
  simp [seqBuildFrame, buildTurn, hseq, hf]

theorem step_frame_assemble (hseq : s.seq = seqBuildFrame i 0 false) (hinbox : s.inbox = []) (hf : s.operands.cfg[i]? = some f) :
    step s = .next (seqTo (seqBuildFrame i 1 false) (assembleCfg f s)) := by
  rw [step_buildFrame hseq hinbox hf]
  simp [buildFrameTurn, hseq, seqBuildFrame]

theorem step_frame_prelude {second : Bool} (hseq : s.seq = seqBuildFrame i 1 second) (hinbox : s.inbox = [])
    (hf : s.operands.cfg[i]? = some f) :
    step s = .next (settleScrubbed .build (seqTo (if second then seqBuildFrame i 2 false else seqBuildFrame i 1 true))
      (preludeHalf (cfgGate s.params) f.delay second s)) := by
  rw [step_buildFrame hseq hinbox hf, ← cfgGated_eq]
  simp [buildFrameTurn, hseq, seqBuildFrame]

/-- The prelude of a configuration frame, in two turns. -/
theorem steps_frame_prelude (hseq : s.seq = seqBuildFrame i 1 false) (hinbox : s.inbox = []) (hf : s.operands.cfg[i]? = some f)
    (hopen : GateOpen (cfgGate s.params) s) :
    steps 2 s = .next (seqTo (seqBuildFrame i 2 false) (afterPrelude (cfgGate s.params) f.delay s)) := by
  obtain ⟨u, hfirst, hin, hoperands, hparams, hsecond⟩ := preludeHalves_pass f.delay hopen
  have h1 : step s = .next (seqTo (seqBuildFrame i 1 true) u) := by
    rw [step_frame_prelude hseq hinbox hf, hfirst]
    rfl
  have h2 := step_frame_prelude (s := seqTo (seqBuildFrame i 1 true) u) rfl (hin.trans hinbox) (by rw [seqTo_operands, hoperands, hf])
  rw [seqTo_params, hparams, hsecond] at h2
  exact (steps_succ 1 h1).trans (steps_one h2)

theorem step_frame_xfer {rx : List Byte} {xs : List XferDraw} (hseq : s.seq = seqBuildFrame i 2 false) (hinbox : s.inbox = [])
    (hf : s.operands.cfg[i]? = some f) (hx : s.env.xfer = .answers rx :: xs) (hlen : rx.length = f.len.toNat) :
    step s = .next (seqTo (seqBuildFrame i 3 false) (answered rx xs s)) := by
  rw [step_buildFrame hseq hinbox hf]
  simp [buildFrameTurn, hseq, seqBuildFrame, ← hlen, xfer_answered hx]

theorem step_frame_passed (hseq : s.seq = seqBuildFrame i 3 false) (hinbox : s.inbox = []) (hf : s.operands.cfg[i]? = some f)
    (hnone : cfgError s.params s.rxbuf.read f.len.toNat = none) :
    step s = .next (seqTo (framePos s.operands.cfg.length (i + 1)) s) := by
  rw [step_buildFrame hseq hinbox hf]
  simp only [buildFrameTurn, hseq, seqBuildFrame, hnone]
  rfl

theorem step_frame_failed {e : Result} (hseq : s.seq = seqBuildFrame i 3 false) (hinbox : s.inbox = [])
    (hf : s.operands.cfg[i]? = some f) (he : cfgError s.params s.rxbuf.read f.len.toNat = some e) :
    step s = .next (raiseScrubbed .build e s) := by
  rw [step_buildFrame hseq hinbox hf]
  simp only [buildFrameTurn, hseq, seqBuildFrame, he]

theorem assembleCfg_slice (h : LegalCfg s f) : slice (assembleCfg f s).txbuf.read 0 f.len.toNat = cfgFrameOut s.slot f := by
  obtain ⟨hlen, hpayload, -⟩ := h
  exact frameImage_slice _ _ _ _ _ _ _ _ hlen.1 hpayload

@[simp] theorem assembleCfg_operands (f : CfgFrame) (s : State) : (assembleCfg f s).operands = s.operands := rfl

theorem assembleCfg_registers (f : CfgFrame) (s : State) : SameRegisters s (assembleCfg f s) :=
  ⟨rfl, rfl, rfl, rfl, rfl, rfl, rfl, rfl⟩

/-- From `v` the frame of record `i` has been sent and answered; its response is checked next. -/
structure FrameSent (v w : State) (i : Nat) (f : CfgFrame) (rx : List Byte) (xs : List XferDraw) : Prop where
  seq : w.seq = seqBuildFrame i 3 false
  registers : SameRegisters v w
  operands : w.operands = v.operands
  txbuf : Holds w.txbuf (cfgFrameOut v.slot f)
  rxbuf : Holds w.rxbuf rx
  trace : w.trace = v.trace ++ cfgEvents v.params v.slot f rx
  env : w.env = { v.env with ready := looksAfter (cfgGate v.params) v.env.ready, xfer := xs }

/-- The frame of a record, assembled, past its prelude and answered, in four turns. -/
theorem frame_reaches_check {rx : List Byte} {xs : List XferDraw} (hseq : s.seq = seqBuildFrame i 0 false) (hinbox : s.inbox = [])
    (hf : s.operands.cfg[i]? = some f) (hlegal : LegalCfg s f) (hopen : GateOpen (cfgGate s.params) s)
    (hx : s.env.xfer = .answers rx :: xs) (hlen : rx.length = f.len.toNat) :
    ∃ w, steps 4 s = .next w ∧ FrameSent s w i f rx xs := by
  have hstart := (assembleCfg_registers f s).trans (seqTo_registers _ (seqBuildFrame i 1 false))
  have hmid := (hstart.trans (afterPrelude_registers _ (cfgGate s.params) f.delay)).trans (seqTo_registers _ (seqBuildFrame i 2 false))
  have hend := (hmid.trans (answered_registers _ rx xs)).trans (seqTo_registers _ (seqBuildFrame i 3 false))
  have hassemble := step_frame_assemble hseq hinbox hf
  have hprelude := steps_frame_prelude (s := seqTo (seqBuildFrame i 1 false) (assembleCfg f s)) rfl (hstart.inbox.trans hinbox) hf hopen
  have hxfer := step_frame_xfer rfl (hmid.inbox.trans hinbox) hf hx hlen
  have hrun := (steps_succ 3 hassemble).trans ((steps_add (k := 1) hprelude).trans (steps_one hxfer))
  have hframe : slice (assembleCfg f s).txbuf.read 0 rx.length = cfgFrameOut s.slot f := by
    rw [hlen]
    exact assembleCfg_slice hlegal
  refine ⟨_, hrun, rfl, hend, by simp, holds_of_slice_eq (b := (assembleCfg f s).txbuf) hframe, answered_holds rx xs _, ?_, rfl⟩
  rw [cfgEvents, ← hframe, ← List.append_assoc]
  rfl

theorem cfgError_congr {p : Params} {v w : View} {L : Nat} (hL : 7 ≤ L) (h : ∀ k, k < L → v k = w k) :
    cfgError p v L = cfgError p w L := by
  unfold cfgError
  rw [responseError_congr hL h]

theorem FrameSent.cfgError_eq {v w : State} {rx : List Byte} {xs : List XferDraw} (h : FrameSent v w i f rx xs) (h7 : 7 ≤ f.len.toNat)
    (hlen : rx.length = f.len.toNat) : cfgError w.params w.rxbuf.read f.len.toNat = cfgError v.params (viewOf rx) f.len.toNat := by
  obtain ⟨hparams, -⟩ := h.registers
  rw [hparams]
  exact cfgError_congr h7 fun k hk => h.rxbuf k (hlen ▸ hk)

end Frame

theorem cfgError_none {p : Params} {b : View} {L : Nat} (h : p.cfgMode = .ack → validateResponse b L = true) :
    cfgError p b L = none := by
  unfold cfgError
  split
  next hack => exact (responseError_none _ _).2 (h hack)
  next => rfl

/-! ### Any number of configuration frames -/

/-- The looks at the ready line that `n` gates take where there is a gate. -/
def looksOf (gated : Bool) (n : Nat) : Nat := if gated then n else 0

theorem gateOpen_replicate {gated : Bool} {s : State} {n : Nat} {rs : List ReadyDraw}
    (h : s.env.ready = List.replicate (looksOf gated (n + 1)) .asserted ++ rs) : GateOpen gated s := by
  intro hg
  rw [h, hg]
  rfl

theorem looksAfter_replicate (gated : Bool) (n : Nat) (rs : List ReadyDraw) :
    looksAfter gated (List.replicate (looksOf gated (n + 1)) .asserted ++ rs) =
      List.replicate (looksOf gated n) .asserted ++ rs := by
  cases gated <;> rfl

/-- From `v` the records of `sent`, of which the first is record `i`, have been sent and acknowledged. -/
structure FramesSent (v w : State) (i : Nat) (sent : List CfgFrame) (answers : List (List Byte)) (rs : List ReadyDraw)
    (xs : List XferDraw) : Prop where
  seq : w.seq = framePos v.operands.cfg.length (i + sent.length)
  registers : SameRegisters v w
  operands : w.operands = v.operands
  trace : w.trace = v.trace ++ (List.zipWith (cfgEvents v.params v.slot) sent answers).flatten
  env : w.env = { v.env with ready := rs, xfer := xs }

/-- BUILD sends its records one after another, five turns each. -/
theorem steps_frames {sent unsent : List CfgFrame} {answers : List (List Byte)} {rs : List ReadyDraw} {xs : List XferDraw} {v : State}
    {i : Nat} (hseq : v.seq = framePos v.operands.cfg.length i) (hinbox : v.inbox = [])
    (hcfg : v.operands.cfg.drop i = sent ++ unsent) (hlegal : ∀ f ∈ sent, LegalCfg v f) (hanswered : Answered v.params sent answers)
    (hx : v.env.xfer = answers.map XferDraw.answers ++ xs)
    (hready : v.env.ready = List.replicate (looksOf (cfgGate v.params) sent.length) .asserted ++ rs) :
    ∃ w, steps (5 * sent.length) v = .next w ∧ FramesSent v w i sent answers rs xs := by
  induction sent generalizing answers v i with
  | nil =>
    cases hanswered
    have hlooks : v.env.ready = rs := by rw [hready]; cases cfgGate v.params <;> rfl
    refine ⟨v, rfl, hseq, ⟨rfl, rfl, rfl, rfl, rfl, rfl, rfl, rfl⟩, rfl, (List.append_nil _).symm, ?_⟩
    rw [← hlooks, show xs = v.env.xfer from hx.symm]
  | cons f sent ih =>
    cases hanswered with
    | @cons _ rx _ answers hrx hrest =>
      obtain ⟨hlen, hvalid⟩ := hrx
      have hi : i < v.operands.cfg.length := by
        by_contra hge
        rw [List.drop_eq_nil_of_le (by omega)] at hcfg
        cases hcfg
      have hf : v.operands.cfg[i]? = some f := by
        have h := congrArg List.head? hcfg
        rw [List.head?_drop] at h
        exact h
      have htail : v.operands.cfg.drop (i + 1) = sent ++ unsent := by
        rw [← List.tail_drop, hcfg]
        rfl
      have hlegalf := hlegal f List.mem_cons_self
      obtain ⟨w, hrun, hw⟩ := frame_reaches_check (rx := rx) (hseq.trans (framePos_lt hi)) hinbox hf hlegalf (gateOpen_replicate hready)
        hx hlen
      obtain ⟨hparams, hslot, -, -, -, -, -, -⟩ := hw.registers
      have hcheck : step w = .next (seqTo (framePos w.operands.cfg.length (i + 1)) w) :=
        step_frame_passed hw.seq (hw.registers.inbox.trans hinbox) (by rw [hw.operands, hf])
          ((hw.cfgError_eq hlegalf.1.1 hlen).trans (cfgError_none hvalid))
      have hnext := hw.registers.trans (seqTo_registers w (framePos w.operands.cfg.length (i + 1)))
      obtain ⟨u, hrest', hu⟩ := ih (v := seqTo (framePos w.operands.cfg.length (i + 1)) w) (i := i + 1) rfl
        (hnext.inbox.trans hinbox) (by rw [seqTo_operands, hw.operands, htail])
        (fun g hg => (hlegal g (List.mem_cons_of_mem f hg)).congr hparams)
        (by rw [seqTo_params, hparams]; exact hrest) (congrArg Env.xfer hw.env)
        (by rw [seqTo_env, hw.env, seqTo_params, hparams, hready]; exact looksAfter_replicate _ _ _)
      refine ⟨u, ?_, ?_, hnext.trans hu.registers, hu.operands.trans hw.operands, ?_, ?_⟩
      · rw [List.length_cons, show 5 * (sent.length + 1) = 4 + (1 + 5 * sent.length) by omega, steps_add hrun,
          steps_add (steps_one hcheck), hrest']
      · rw [hu.seq, seqTo_operands, hw.operands, List.length_cons, Nat.add_right_comm, Nat.add_assoc]
      · rw [hu.trace, seqTo_trace, hw.trace, seqTo_params, hparams, seqTo_slot, hslot, List.zipWith_cons_cons, List.flatten_cons,
          List.append_assoc]
      · rw [hu.env, seqTo_env, hw.env]

end Sys2Proof.Machine

/-! PROOFS. The statements about BUILD, about bad responses and about a module that is not ready, put together from the runs. -/

namespace Sys2Proof.Machine

open Host (Outcome)

/-! ### BUILD up to the identity -/

/-- Settles O39. -/
theorem buildStartsWithTheProbe : Obligations.BuildStartsWithTheProbe :=
  fun _ _ _ _ hprobe hP hne hcfg => ⟨_, exec_build hprobe hP hne hcfg, startBuild_buildStarted hP⟩

/-- An error of BUILD leaves the phase in which BUILD is admitted. -/
theorem phaseAfterError_build {s : State} (h : ProbeReady s) : phaseAfterError .build s.phase = s.phase := by
  obtain ⟨-, hphase, -⟩ := h
  rw [hphase]
  rfl

/-- Settles O41: the identity that is looked at is that of the response. -/
theorem wrongIdentityIsRefused : Obligations.WrongIdentityIsRefused := by
  intro s idexp P cfg rsp rs xs hprobe hP h9 hne hcfg hinbox hx hlen hready hcks hwrong
  obtain ⟨v, hrun, hv⟩ := build_reaches_identity idexp cfg hP hinbox hx hlen (gateOpen_of_cons hready)
  have hid : identOf (viewOf rsp) ≠ idexp := by
    rintro rfl
    rcases hwrong with h | h | h <;> exact h rfl
  have herror : probeError s.params.probeRxCheck v.rxbuf.read P.toNat idexp = some .identityMismatch :=
    (hv.probeError_eq h9 hlen _ _).trans (probeError_mismatch hcks hid)
  have hstep : step v = .next (raise .build .identityMismatch v) := by
    obtain ⟨hparams, -⟩ := hv.registers
    rw [hv.step_eq hinbox, identityTurn, hparams, hv.operands]
    simp only [startBuild, seqTo_operands, assembleProbe_operands, herror, raiseProbe, if_true]
  exact ⟨_, _, exec_build hprobe hP hne hcfg, startBuild_buildStarted hP, (steps_add (k := 1) hrun).trans (steps_one hstep),
    ended_raise hv.registers hv.operands hv.txbuf hv.trace (phaseAfterError_build hprobe) _, hv.rxbuf⟩

/-- Settles O42: the checksum is looked at first, whatever the identity. -/
theorem probeChecksumComesFirst : Obligations.ProbeChecksumComesFirst := by
  intro s idexp P cfg rsp rs xs hprobe hP hne hcfg hinbox hx hlen hready hcheck hbad
  obtain ⟨v, hrun, hv⟩ := build_reaches_identity idexp cfg hP hinbox hx hlen (gateOpen_of_cons hready)
  have h7 : 7 ≤ P.toNat := hP.1
  have hcks : cksOk v.rxbuf.read P.toNat = false := (cksOk_congr (by omega) fun k hk => hv.rxbuf k (hlen ▸ hk)).trans hbad
  have hstep : step v = .next (raiseScrubbed .build .checksumIncorrect v) := by
    obtain ⟨hparams, -⟩ := hv.registers
    rw [hv.step_eq hinbox, identityTurn, hparams, hcheck, hv.operands]
    simp only [startBuild, seqTo_operands, assembleProbe_operands, probeError_checksum idexp hcks]
    rfl
  exact ⟨_, _, exec_build hprobe hP hne hcfg, startBuild_buildStarted hP, (steps_add (k := 1) hrun).trans (steps_one hstep),
    ended_raise (hv.registers.trans (scrubRx_registers v)) hv.operands hv.txbuf hv.trace (phaseAfterError_build hprobe) _⟩

/-! ### BUILD up to a configuration frame -/

section Build

variable {s : State} {idexp : Ident} {P : Len} {sent unsent : List CfgFrame} {rsp : List Byte} {answers : List (List Byte)}
  {rs : List ReadyDraw} {xs : List XferDraw}

theorem gateOpen_probe {n : Nat} (hready : s.env.ready = List.replicate ((if s.params.escReadyGate then 1 else 0) + n) .asserted ++ rs) :
    GateOpen s.params.escReadyGate s := by
  intro hgated
  rw [hready, hgated, if_pos rfl, Nat.add_comm]
  rfl

theorem looksAfter_probe (gated : Bool) (n : Nat) (rs : List ReadyDraw) :
    looksAfter gated (List.replicate ((if gated then 1 else 0) + n) .asserted ++ rs) = List.replicate n .asserted ++ rs := by
  cases gated with
  | false => rw [if_neg nofun, Nat.zero_add]; rfl
  | true => rw [if_pos rfl, Nat.add_comm]; rfl

/-- From `t`, the accepted BUILD, the probe and the records of `sent` have been sent and answered as they should. -/
structure BuiltTo (s t w : State) (P : Len) (sent unsent : List CfgFrame) (rsp : List Byte) (answers : List (List Byte))
    (rs : List ReadyDraw) (xs : List XferDraw) : Prop where
  seq : w.seq = framePos (sent ++ unsent).length sent.length
  registers : SameRegisters s w
  operands : w.operands = t.operands
  trace : w.trace = s.trace ++ gateEvents s.params.escReadyGate ++ [.xfer (probeOut P.toNat s.params.probeTxChecksum) rsp] ++
    (List.zipWith (cfgEvents s.params s.slot) sent answers).flatten
  env : w.env = { s.env with ready := rs, xfer := xs }

/-- BUILD past its probe, the identity and the records of `sent`. -/
theorem build_reaches_frame (hprobe : ProbeReady s) (hP : LegalLen s P) (h9 : 9 ≤ P.toNat) (hne : sent ++ unsent ≠ [])
    (hcfg : ∀ f ∈ sent ++ unsent, LegalCfg s f) (hinbox : s.inbox = [])
    (hx : s.env.xfer = .answers rsp :: (answers.map XferDraw.answers ++ xs)) (hlen : rsp.length = P.toNat)
    (hanswered : Answered s.params sent answers)
    (hready : s.env.ready = List.replicate ((if s.params.escReadyGate then 1 else 0) + looksOf (cfgGate s.params) sent.length)
      .asserted ++ rs)
    (hcks : s.params.probeRxCheck = true → cksOk (viewOf rsp) P.toNat = true) (hid : identOf (viewOf rsp) = idexp) :
    ∃ t w, exec (.build idexp P (sent ++ unsent)) s = .next t ∧ BuildStarted s t idexp P (sent ++ unsent) ∧
      t.operands.cfg = sent ++ unsent ∧ t.operands.idexp = idexp ∧ steps (3 + 5 * sent.length) t = .next w ∧
      BuiltTo s t w P sent unsent rsp answers rs xs := by
  obtain ⟨v, hrun, hv⟩ := build_reaches_identity idexp (sent ++ unsent) hP hinbox hx hlen (gateOpen_probe hready)
  obtain ⟨hparams, hslot, -⟩ := hv.registers
  have hnone : probeError s.params.probeRxCheck v.rxbuf.read P.toNat idexp = none :=
    (hv.probeError_eq h9 hlen _ _).trans (probeError_none hcks hid)
  have hstep : step v = .next (seqTo (seqBuildFrame 0 0 false) v) := by
    rw [hv.step_eq hinbox, identityTurn, hparams, hv.operands]
    simp only [startBuild, seqTo_operands, assembleProbe_operands, hnone]
  have hpos : seqBuildFrame 0 0 false = framePos v.operands.cfg.length 0 := by
    rw [hv.operands]
    exact (framePos_lt (List.length_pos_iff.2 hne)).symm
  have hlegal : ∀ f ∈ sent, LegalCfg (seqTo (seqBuildFrame 0 0 false) v) f :=
    fun f hf => (hcfg f (List.mem_append_left _ hf)).congr hparams
  have hlooks : v.env.ready = List.replicate (looksOf (cfgGate v.params) sent.length) .asserted ++ rs := by
    rw [hv.env, hparams, hready]
    exact looksAfter_probe _ _ _
  obtain ⟨w, hframes, hw⟩ := steps_frames (v := seqTo (seqBuildFrame 0 0 false) v) (i := 0) (sent := sent) (unsent := unsent)
    (answers := answers) (rs := rs) (xs := xs) hpos ((hv.registers.trans (seqTo_registers v _)).inbox.trans hinbox)
    (by rw [seqTo_operands, hv.operands]; rfl) hlegal (by rw [seqTo_params, hparams]; exact hanswered)
    (congrArg Env.xfer hv.env) hlooks
  refine ⟨_, w, exec_build hprobe hP hne hcfg, startBuild_buildStarted hP, rfl, rfl, ?_, ?_, ?_, hw.operands.trans hv.operands, ?_, ?_⟩
  · rw [show 3 + 5 * sent.length = 2 + (1 + 5 * sent.length) by omega, steps_add hrun, steps_add (steps_one hstep), hframes]
  · rw [hw.seq, seqTo_operands, hv.operands, Nat.zero_add]
    rfl
  · exact (hv.registers.trans (seqTo_registers v _)).trans hw.registers
  · rw [hw.trace, seqTo_trace, hv.trace, seqTo_params, hparams, seqTo_slot, hslot, ← List.append_assoc s.trace]
  · rw [hw.env, seqTo_env, hv.env]

/-- At a record that is still to be sent, BUILD stands before it. -/
theorem BuiltTo.seq_cons {t w : State} {f : CfgFrame} (h : BuiltTo s t w P sent (f :: unsent) rsp answers rs xs) :
    w.seq = seqBuildFrame sent.length 0 false :=
  h.seq.trans (framePos_lt (by simp))

theorem BuiltTo.record {t w : State} {f : CfgFrame} (h : BuiltTo s t w P sent (f :: unsent) rsp answers rs xs)
    (ht : t.operands.cfg = sent ++ f :: unsent) : w.operands.cfg[sent.length]? = some f := by
  rw [h.operands, ht]
  simp

end Build

/-- Settles O40: past all its records BUILD stands at step 4, and that one binds. -/
theorem buildBinds : Obligations.BuildBinds := by
  intro s idexp P cfg rsp answers rs xs hprobe hP h9 hne hcfg hinbox hx hlen hanswered hready hcks hid
  obtain ⟨t, w, hexec, hstarted, -, hidexp, hrun, hw⟩ := build_reaches_frame (sent := cfg) (unsent := []) hprobe hP h9
    (by rwa [List.append_nil]) (by rwa [List.append_nil]) hinbox hx hlen hanswered hready hcks hid
  rw [List.append_nil] at hexec hstarted
  have hseq : w.seq = { Seq.start .build 4 with frame := cfg.length } := by
    rw [hw.seq, List.append_nil, framePos, if_neg (Nat.lt_irrefl _)]
  have hbind : step w = .next (bindTurn w) := by
    rw [step_eq_advance (hw.registers.inbox.trans hinbox), advance, hseq]
    simp [Seq.start, buildTurn, hseq]
  obtain ⟨hparams, hslot, hphase, hident, hsetup, htaint, hout, -⟩ := hw.registers
  refine ⟨t, w, bindTurn w, hexec, hstarted, hrun, ?_, hident, by rw [hseq]; rfl, ?_, rfl, ?_, rfl, rfl, rfl, hslot, hsetup, htaint,
    hout, hparams, hw.operands, congrArg (· ++ _) hw.trace⟩
  · obtain ⟨-, hunid, -⟩ := hprobe
    exact hphase.trans hunid
  · rw [show 4 + 5 * cfg.length = 3 + 5 * cfg.length + 1 by omega, steps_add hrun, steps_one hbind]
  · show (⟨true, w.operands.idexp⟩ : IdentReg) = _
    rw [hw.operands, hidexp]

/-! ### Bad responses (R136, R161, R212) -/

/-- A response that does not validate raises one of the two errors. -/
theorem exists_responseError {v : View} {L : Nat} (h : validateResponse v L = false) : ∃ e, responseError v L = some e := by
  refine Option.ne_none_iff_exists'.1 fun hnone => ?_
  rw [(responseError_none v L).1 hnone] at h
  cases h

/-- XCHG and XCHGE are exchanges that check their response. -/
theorem isExchange_of_checked {i : Instr} {op : Op} {a : XferArgs}
    (h : (i = .xchg a ∧ op = .xchg) ∨ (i = .xchge a ∧ op = .xchge)) :
    IsExchange i op a ∧ (∃ last, exchangeLast op = some last ∧ 4 ≤ last) ∧
      ∀ p, exchangeGated p op = true := by
  rcases h with ⟨rfl, rfl⟩ | ⟨rfl, rfl⟩
  · exact ⟨.inl ⟨rfl, rfl⟩, ⟨4, rfl, by omega⟩, fun _ => rfl⟩
  · exact ⟨.inr (.inr ⟨rfl, rfl⟩), ⟨5, rfl, by omega⟩, fun _ => rfl⟩

/-- Settles O29: the exchange and the configuration frame each come to their check, which raises the error of the response. -/
theorem badResponsesAreRejected : Obligations.BadResponsesAreRejected := by
  refine ⟨fun s a rx rs xs i op hi h hready hbad => ?exchange, fun s idexp P sent f unsent rsp answers rx rs xs hprobe hP h9 hcfg
    hinbox hack hx hlen hanswered hlenf hbad hready hcks hid => ?build⟩
  case exchange =>
    obtain ⟨hex, ⟨last, hlast, h4⟩, hgated⟩ := isExchange_of_checked hi
    obtain ⟨t, v, hexec, hstarted, hrun, hv⟩ := exchange_reaches_transfer hex h (gateOpen_of_cons fun _ => hready)
    obtain ⟨-, -, -, -, ⟨hlegal, -⟩, -, hlen⟩ := h
    obtain ⟨e, he⟩ := exists_responseError hbad
    have hcheck := hv.step_check_failed hlast h4 hlen hlegal.1 he
    have hended := hv.ended_error hex v.seq e
    rw [hgated] at hended
    exact ⟨t, _, e, hexec, hstarted, (steps_add (k := 1) hrun).trans (steps_one hcheck), hended, rejectedAs_of_responseError he⟩
  case build =>
    have hgate : cfgGate s.params = true := by rw [cfgGate, hack]; rfl
    have hlooks : s.env.ready = List.replicate ((if s.params.escReadyGate then 1 else 0) + looksOf (cfgGate s.params) sent.length)
        .asserted ++ (.asserted :: rs) := by
      rw [hready, hgate, List.replicate_succ', List.append_assoc]
      rfl
    obtain ⟨t, w, hexec, hstarted, ht, -, hrun, hw⟩ := build_reaches_frame hprobe hP h9 (by simp) hcfg hinbox hx hlen hanswered hlooks
      hcks hid
    obtain ⟨hparams, hslot, -⟩ := hw.registers
    have hlegal : LegalCfg s f := hcfg f (by simp)
    have hlegalw : LegalCfg w f := hlegal.congr hparams
    have hf := hw.record ht
    obtain ⟨x, hframe, hsent⟩ := frame_reaches_check hw.seq_cons (hw.registers.inbox.trans hinbox) hf hlegalw
      (fun _ => by rw [hw.env]; rfl) (congrArg Env.xfer hw.env) hlenf
    obtain ⟨e, he⟩ := exists_responseError hbad
    have hregisters := hw.registers.trans hsent.registers
    have hcheck : step x = .next (raiseScrubbed .build e x) := by
      refine step_frame_failed hsent.seq (hregisters.inbox.trans hinbox) (by rw [hsent.operands, hf]) ?_
      rw [hsent.cfgError_eq hlegal.1.1 hlenf, hparams, cfgError, hack]
      exact he
    have htrace : x.trace = s.trace ++ gateEvents s.params.escReadyGate ++
        [.xfer (probeOut P.toNat s.params.probeTxChecksum) rsp] ++
        (List.zipWith (cfgEvents s.params s.slot) sent answers).flatten ++ cfgEvents s.params s.slot f rx := by
      rw [hsent.trace, hw.trace, hparams, hslot]
    refine ⟨t, _, e, hexec, hstarted, ?_, raise_registers (hregisters.trans (scrubRx_registers x)) (phaseAfterError_build hprobe) e,
      hsent.operands.trans hw.operands, rfl, rfl, rejectedAs_of_responseError he, ?_, ?_, congrArg (· ++ _) htrace⟩
    · rw [show 8 + 5 * sent.length = 3 + 5 * sent.length + (4 + 1) by omega, steps_add hrun, steps_add hframe, steps_one hcheck]
      rfl
    · rw [← hslot]
      exact hsent.txbuf
    · show x.env = _
      rw [hsent.env, hw.env, hparams, hgate]
      rfl

/-! ### A module that is not ready, in Sync (R131, R203) -/

section NotReady

variable {s : State} {op : Op} {last : Nat} {rs : List ReadyDraw}

/-- A prelude of an exchange that fails at its gate. -/
theorem steps_prelude_notReady (hlast : exchangeLast op = some last) (hseq : s.seq = Seq.start op 1) (hinbox : s.inbox = [])
    (hgated : exchangeGated s.params op = true) (hsync : s.params.sched = .sync) (hready : s.env.ready = .deasserted :: rs) :
    ∃ q, steps (if s.params.gateOrder = .beforeDelay then 1 else 2) s =
      .next (raise op .moduleUnavailable (seqTo q (afterRefusedPrelude s.operands.delay s))) := by
  have hop : s.seq.op = some op := by rw [hseq]; rfl
  have hstep : s.seq.step = 1 := by rw [hseq]; rfl
  have hfirst : s.seq.second = false := by rw [hseq]; rfl
  cases horder : s.params.gateOrder with
  | beforeDelay =>
    refine ⟨s.seq, ?_⟩
    rw [if_pos rfl, steps_one ((step_eq_advance hinbox).trans (advance_prelude hlast hop hstep)), hgated, preludeTurn, hfirst,
      preludeHalf_notReady_first _ hsync hready horder]
    rfl
  | afterDelay =>
    refine ⟨{ Seq.start op 1 with second := true }, ?_⟩
    obtain ⟨hwait, hgate⟩ :=
      preludeHalf_notReady_second s.operands.delay { Seq.start op 1 with second := true } hsync hready horder
    have hm := delayIf_moved s.operands.delay s
    have h1 : step s = .next (seqTo { Seq.start op 1 with second := true } (delayIf s.operands.delay s)) := by
      rw [step_eq_advance hinbox, advance_prelude hlast hop hstep, hgated, preludeTurn, hfirst, hwait]
      rfl
    have h2 := (step_seqTo { Seq.start op 1 with second := true } (hm.inbox.trans hinbox)).trans (advance_prelude hlast rfl rfl)
    rw [preludeTurn, seqTo_seq, seqTo_params, seqTo_operands, hm.operands, hm.params, hgated, hgate] at h2
    exact (steps_succ 1 h1).trans (steps_one h2)

/-- A prelude of a configuration frame that fails at its gate; the probe has been transferred before. -/
theorem steps_frame_prelude_notReady {i : Nat} {f : CfgFrame} (hseq : s.seq = seqBuildFrame i 1 false) (hinbox : s.inbox = [])
    (hf : s.operands.cfg[i]? = some f) (hgated : cfgGate s.params = true) (hsync : s.params.sched = .sync)
    (hready : s.env.ready = .deasserted :: rs) :
    ∃ q, steps (if s.params.gateOrder = .beforeDelay then 1 else 2) s =
      .next (raiseScrubbed .build .moduleUnavailable (seqTo q (afterRefusedPrelude f.delay s))) := by
  have hfirst := step_frame_prelude hseq hinbox hf
  rw [hgated] at hfirst
  cases horder : s.params.gateOrder with
  | beforeDelay =>
    refine ⟨s.seq, ?_⟩
    rw [if_pos rfl, steps_one hfirst, preludeHalf_notReady_first _ hsync hready horder]
    rfl
  | afterDelay =>
    refine ⟨seqBuildFrame i 1 true, ?_⟩
    obtain ⟨hwait, hgate⟩ := preludeHalf_notReady_second f.delay (seqBuildFrame i 1 true) hsync hready horder
    have hm := delayIf_moved f.delay s
    rw [hwait] at hfirst
    have h2 := step_frame_prelude (s := seqTo (seqBuildFrame i 1 true) (delayIf f.delay s)) rfl (hm.inbox.trans hinbox)
      (by rw [seqTo_operands, hm.operands, hf])
    rw [seqTo_params, hm.params, hgated, hgate] at h2
    exact (steps_succ 1 hfirst).trans (steps_one h2)

/-- From `w`, at a record of BUILD, the frame stands in `TXBUF` and its gate has found the module not ready. -/
structure RefusedAtFrame (w x : State) (f : CfgFrame) : Prop where
  registers : SameRegisters w x
  operands : x.operands = w.operands
  txbuf : Holds x.txbuf (cfgFrameOut w.slot f)
  trace : x.trace = w.trace ++ notReadyEvents w.params.gateOrder f.delay

theorem frame_notReady {i : Nat} {f : CfgFrame} (hseq : s.seq = seqBuildFrame i 0 false) (hinbox : s.inbox = [])
    (hf : s.operands.cfg[i]? = some f) (hlegal : LegalCfg s f) (hgated : cfgGate s.params = true) (hsync : s.params.sched = .sync)
    (hready : s.env.ready = .deasserted :: rs) :
    ∃ x, steps (1 + if s.params.gateOrder = .beforeDelay then 1 else 2) s = .next (raiseScrubbed .build .moduleUnavailable x) ∧
      RefusedAtFrame s x f := by
  have hassemble := step_frame_assemble hseq hinbox hf
  have hstart := (assembleCfg_registers f s).trans (seqTo_registers _ (seqBuildFrame i 1 false))
  obtain ⟨q, hrun⟩ := steps_frame_prelude_notReady (s := seqTo (seqBuildFrame i 1 false) (assembleCfg f s)) rfl
    (hstart.inbox.trans hinbox) hf hgated hsync hready
  refine ⟨_, (steps_add (steps_one hassemble)).trans hrun,
    (hstart.trans (afterRefusedPrelude_registers f.delay _)).trans (seqTo_registers _ q), rfl, ?_, rfl⟩
  exact holds_of_slice_eq (b := (assembleCfg f s).txbuf) (assembleCfg_slice hlegal)

/-- The state after the gate of an ESC, in BUILD or alone, that found the line deasserted. -/
def afterRefusedGate (s : State) : State :=
  { s with env := { s.env with ready := s.env.ready.tail }, trace := s.trace ++ [.ready .deasserted] }

theorem afterRefusedGate_registers (s : State) : SameRegisters s (afterRefusedGate s) :=
  ⟨rfl, rfl, rfl, rfl, rfl, rfl, rfl, rfl⟩

theorem gateIf_notReady {gated : Bool} (hgated : gated = true) (hsync : s.params.sched = .sync)
    (hready : s.env.ready = .deasserted :: rs) : gateIf gated s = .failed .moduleUnavailable (afterRefusedGate s) := by
  rw [hgated, gateIf_true, gate_notReady hsync hready, afterRefusedGate]

theorem isExchange_of_gated {i : Instr} {a : XferArgs}
    (h : (i = .xchg a ∧ op = .xchg) ∨ (i = .xchge a ∧ op = .xchge) ∨ (i = .wr a ∧ op = .wr ∧ s.params.wrReadyGate = true)) :
    IsExchange i op a ∧ exchangeGated s.params op = true := by
  rcases h with ⟨rfl, rfl⟩ | ⟨rfl, rfl⟩ | ⟨rfl, rfl, hgated⟩
  · exact ⟨.inl ⟨rfl, rfl⟩, rfl⟩
  · exact ⟨.inr (.inr ⟨rfl, rfl⟩), rfl⟩
  · exact ⟨.inr (.inl ⟨rfl, rfl⟩), hgated⟩

end NotReady

/-- Settles O30, gate by gate. -/
theorem notReadyIsModuleUnavailable : Obligations.NotReadyIsModuleUnavailable := by
  refine ⟨fun s a rs i op hi hready hphase htaint hinbox hargs hsync hlook => ?exchange,
    fun s P rs hprobe hP hinbox hsync hgated hlook => ?esc,
    fun s idexp P cfg rs hprobe hP hne hcfg hinbox hsync hgated hlook => ?probe,
    fun s idexp P sent f unsent rsp answers rs xs hprobe hP h9 hcfg hinbox hsync hgate hx hlen hanswered hlook hcks hid => ?frame⟩
  case exchange =>
    obtain ⟨hex, hgated⟩ := isExchange_of_gated hi
    obtain ⟨last, hlast⟩ := hex.exists_last
    obtain ⟨q, hrun⟩ := steps_prelude_notReady (s := startExchange op a s) hlast rfl
      ((startExchange_registers op a s).inbox.trans hinbox) hgated hsync hlook
    exact ⟨_, _, exec_exchange hex hready hphase htaint hargs, startExchange_frameStarted op hargs, hrun,
      ended_raise (((startExchange_registers op a s).trans (afterRefusedPrelude_registers a.delay _)).trans (seqTo_registers _ q))
        rfl rfl rfl (hex.phaseAfterError _) _, rfl⟩
  case esc =>
    have hstart : SameRegisters s (startEsc P s) := ⟨rfl, rfl, rfl, rfl, rfl, rfl, rfl, rfl⟩
    have hgate := gateIf_notReady (s := startEsc P s) hgated hsync hlook
    have hstep : step (startEsc P s) = .next (raise .esc .moduleUnavailable (afterRefusedGate (startEsc P s))) :=
      (step_eq_advance (hstart.inbox.trans hinbox)).trans
        (congrArg (fun x => Outcome.next (settle .esc (seqTo (Seq.start .esc 2)) x)) hgate)
    exact ⟨_, _, exec_esc hprobe hP, probeImage_holds _ _ hP.1, steps_one hstep,
      ended_raise (op := .esc) (t := startEsc P s) (hstart.trans (afterRefusedGate_registers _)) rfl rfl rfl rfl _, rfl⟩
  case probe =>
    have hstart : SameRegisters s (startBuild idexp P cfg s) := startBuild_registers
    have hgate := gateIf_notReady (s := startBuild idexp P cfg s) hgated hsync hlook
    have hstep : step (startBuild idexp P cfg s) =
        .next (raise .build .moduleUnavailable (afterRefusedGate (startBuild idexp P cfg s))) :=
      (step_eq_advance (hstart.inbox.trans hinbox)).trans
        (congrArg (fun x => Outcome.next (settle .build (seqTo (seqBuildProbe 2)) x)) hgate)
    exact ⟨_, _, exec_build hprobe hP hne hcfg, startBuild_buildStarted hP, steps_one hstep,
      ended_raise (t := startBuild idexp P cfg s) (hstart.trans (afterRefusedGate_registers _)) rfl rfl rfl
        (phaseAfterError_build hprobe) _, rfl⟩
  case frame =>
    have hlooks : s.env.ready = List.replicate ((if s.params.escReadyGate then 1 else 0) + looksOf (cfgGate s.params) sent.length)
        .asserted ++ (.deasserted :: rs) := by
      rw [hlook, hgate]
      rfl
    obtain ⟨t, w, hexec, hstarted, ht, -, hrun, hw⟩ := build_reaches_frame hprobe hP h9 (by simp) hcfg hinbox hx hlen hanswered hlooks
      hcks hid
    obtain ⟨hparams, hslot, -⟩ := hw.registers
    have hlegal : LegalCfg w f := (hcfg f (by simp)).congr hparams
    have hf := hw.record ht
    obtain ⟨x, hrefuse, hx⟩ := frame_notReady hw.seq_cons (hw.registers.inbox.trans hinbox) hf hlegal (hparams ▸ hgate)
      (hparams ▸ hsync) (congrArg Env.ready hw.env)
    rw [hparams] at hrefuse
    have htrace : x.trace = s.trace ++ gateEvents s.params.escReadyGate ++
        [.xfer (probeOut P.toNat s.params.probeTxChecksum) rsp] ++
        (List.zipWith (cfgEvents s.params s.slot) sent answers).flatten ++ notReadyEvents s.params.gateOrder f.delay := by
      rw [hx.trace, hw.trace, hparams]
    refine ⟨t, _, hexec, hstarted, ?_, raise_registers ((hw.registers.trans hx.registers).trans (scrubRx_registers x))
      (phaseAfterError_build hprobe) .moduleUnavailable, hx.operands.trans hw.operands, rfl, rfl, ?_, congrArg (· ++ _) htrace⟩
    · rw [show 4 + 5 * sent.length + (if s.params.gateOrder = .beforeDelay then 1 else 2) =
        3 + 5 * sent.length + (1 + if s.params.gateOrder = .beforeDelay then 1 else 2) by omega, steps_add hrun, hrefuse]
      rfl
    · rw [← hslot]
      exact hx.txbuf

end Sys2Proof.Machine

/-! PROOFS. What the host reads: the codes tell the values of one register apart, and of `RXBUF` it reads the frame received. -/

namespace Sys2Proof.Machine

open Function (LeftInverse)

/-! ### The codes, read back -/

/-- The phase of a code of R22. -/
def phaseOfCode (c : BitVec 2) : Phase :=
  match c.toNat with
  | 0 => .unidentified
  | 1 => .reset
  | _ => .bound

theorem phaseOfCode_phaseCode : LeftInverse phaseOfCode phaseCode
  | .unidentified => rfl
  | .reset => rfl
  | .bound => rfl

/-- The setup value of a code of R24. -/
def setupOfCode (c : BitVec 3) : Setup :=
  match c.toNat with
  | 0 => .ok
  | 1 => .failed (.resource .channel)
  | 2 => .failed (.resource .resetLine)
  | 3 => .failed (.resource .readyLine)
  | 4 => .failed (.resource .delaySource)
  | _ => .failed .slotOutOfRange

theorem setupOfCode_setupCode : LeftInverse setupOfCode setupCode
  | .ok => rfl
  | .failed (.resource .channel) => rfl
  | .failed (.resource .resetLine) => rfl
  | .failed (.resource .readyLine) => rfl
  | .failed (.resource .delaySource) => rfl
  | .failed .slotOutOfRange => rfl

/-- The reset level of a code of R26. -/
def resetOutOfCode (c : BitVec 2) : ResetOut :=
  match c.toNat with
  | 0 => .unknown
  | 1 => .low
  | _ => .high

theorem resetOutOfCode_resetOutCode : LeftInverse resetOutOfCode resetOutCode
  | .unknown => rfl
  | .low => rfl
  | .high => rfl

/-- The results of R200 that their code determines: all but the SetupErrors, which share one. -/
def resultsWithOwnCode : List Result :=
  [.ok, .moduleUnavailable, .checksumIncorrect, .unableToSerDe, .identityMismatch, .abandoned] ++
    [Origin.channel, .resetLine, .readyLine].map .resourceError ++
    [Reason.unknownCommand, .wrongPhase, .tainted, .busy, .setupFailed, .badLength, .badDirection, .badMessageType, .emptyConfig,
      .nothingToAbandon].map .refused

/-- The result that has a code for itself. -/
def resultOfCode (c : Byte) : Option Result := resultsWithOwnCode.find? fun r => resultCode r == c

theorem resultOfCode_resultCode (r : Result) :
    (resultOfCode (resultCode r) = some r) ∨ ((∃ f, r = .setupError f) ∧ resultOfCode (resultCode r) = none) := by
  cases r with
  | setupError f => exact .inr ⟨⟨f, rfl⟩, rfl⟩
  | resourceError o => cases o <;> exact .inl rfl
  | refused reason => cases reason <;> exact .inl rfl
  | _ => exact .inl rfl

theorem eq_of_resultCode_eq {r r' : Result} (h : resultCode r = resultCode r') :
    r = r' ∨ ∃ f f', r = .setupError f ∧ r' = .setupError f' := by
  have hsame : resultOfCode (resultCode r) = resultOfCode (resultCode r') := congrArg resultOfCode h
  rcases resultOfCode_resultCode r with hr | ⟨⟨f, hf⟩, hr⟩ <;> rcases resultOfCode_resultCode r' with hr' | ⟨⟨f', hf'⟩, hr'⟩
  · exact .inl (Option.some.inj (hr.symm.trans (hsame.trans hr')))
  · exact absurd (hr.symm.trans (hsame.trans hr')) nofun
  · exact absurd (hr.symm.trans (hsame.trans hr')) nofun
  · exact .inr ⟨f, f', hf, hf'⟩

/-! ### Registers and buffers -/

theorem readCtrl_of_le (s : State) {n : Nat} (h : 8 ≤ n) : s.readCtrl n = none := by
  obtain ⟨m, rfl⟩ := Nat.exists_eq_add_of_le' h
  rfl

theorem rxReadable_iff (s : State) : s.rxReadable = true ↔ s.seq.op = none ∧ (s.status = .ok ∨ s.status = .identityMismatch) := by
  simp [State.rxReadable]

theorem readBuf_rx_of_not_readable {s : State} (k : Nat) (h : ¬ s.rxReadable = true) : s.readBuf .rx k = none := if_neg h

/-- `RXBUF` as a transfer leaves it, where the host may read it: the bytes of the answer and no byte after them. -/
theorem readBuf_rx_of_received {s u : State} {rx : List Byte} (hrx : u.rxbuf = (receive rx.length rx s).rxbuf)
    (h : u.rxReadable = true) (k : Nat) : u.readBuf .rx k = rx[k]? := by
  rw [receive_rxbuf, received_exact] at hrx
  calc u.readBuf .rx k = cellAt u.rxbuf.cells k := if_pos h
    _ = cellAt (cellsFrom 0 rx) k := by rw [hrx, Buf.ofBytes]
    _ = rx[k]? := by rw [cellAt_cellsFrom, if_pos (Nat.zero_le k), Nat.sub_zero]

/-- Settles O59. -/
theorem registerCodesTellValuesApart : Obligations.RegisterCodesTellValuesApart := by
  refine ⟨?resultCodes, ?phaseCodes, ?setupCodes, ?resetOutCodes, fun _ _ => eq_of_resultCode_eq,
    fun _ _ h => phaseOfCode_phaseCode.injective h, fun _ _ h => setupOfCode_setupCode.injective h,
    fun _ _ h => resetOutOfCode_resetOutCode.injective h, ?registers, ?unreadable, ?frame⟩
  case resultCodes => exact ⟨rfl, rfl, rfl, rfl, fun _ => rfl, rfl, rfl, rfl, rfl, rfl, rfl, rfl, rfl, rfl, rfl, rfl, rfl, rfl, rfl, rfl⟩
  case phaseCodes => exact ⟨rfl, rfl, rfl⟩
  case setupCodes => exact ⟨rfl, rfl, rfl, rfl, rfl, rfl⟩
  case resetOutCodes => exact ⟨rfl, rfl, rfl⟩
  case registers => exact fun s => ⟨rfl, rfl, rfl, rfl, rfl, rfl, rfl, rfl, fun _ => readCtrl_of_le s, rfl⟩
  case unreadable =>
    refine fun s k => ⟨rfl, fun h => readBuf_rx_of_not_readable k fun hreadable => ?_⟩
    obtain ⟨hidle, hstatus⟩ := (rxReadable_iff s).1 hreadable
    rcases h with hbusy | ⟨hok, hmismatch⟩
    · exact hbusy hidle
    · exact hstatus.elim hok hmismatch
  case frame => exact fun s u rx hrx hidle hstatus k => readBuf_rx_of_received hrx ((rxReadable_iff u).2 ⟨hidle, hstatus⟩) k

end Sys2Proof.Machine

/-! PROOFS. Scheduling independence (R141): where the next look does not find the line deasserted, a step of the instance does the same
under either scheduling model, and takes at most that one look. -/

namespace Sys2Proof.Machine

open Host (Outcome)

section SchedulingIndependence

/-- From `s` to `t` at most one look at the ready line is taken, and the inputs to come are some of those of `s`. -/
structure OneLook (s t : State) : Prop where
  ready : t.env.ready = s.env.ready ∨ t.env.ready = s.env.ready.tail
  inbox : t.inbox <:+ s.inbox

/-- There is a next look, and it does not find the line deasserted. -/
def LookHolds (s : State) : Prop := ∃ d rs, s.env.ready = d :: rs ∧ d ≠ .deasserted

/-- An attempt of `s`, and that of the same instance under the scheduling model `c`, end alike. -/
inductive SameAttempt (c : Sched) (s : State) : Attempt → Attempt → Prop
  | passed {t : State} (h : OneLook s t) : SameAttempt c s (.passed t) (.passed (withSched c t))
  | failed {e : Result} {t : State} (h : OneLook s t) : SameAttempt c s (.failed e t) (.failed e (withSched c t))

/-- A move of `s`, and that of the same instance under the scheduling model `c`, end alike. -/
inductive SameMove (c : Sched) (s : State) : Outcome State Fault Refusal → Outcome State Fault Refusal → Prop
  | next {t : State} (h : OneLook s t) : SameMove c s (.next t) (.next (withSched c t))
  | fault (f : Fault) : SameMove c s (.fault f) (.fault f)

variable {c : Sched} {s : State}

theorem OneLook.of_ready {t : State} (hready : t.env.ready = s.env.ready) (hinbox : t.inbox = s.inbox) : OneLook s t :=
  ⟨.inl hready, hinbox ▸ List.suffix_refl _⟩

/-- The same move, seen from a state with the same draws to come. -/
theorem SameMove.mono {t : State} {o o' : Outcome State Fault Refusal} (h : SameMove c t o o') (henv : t.env = s.env)
    (hinbox : t.inbox <:+ s.inbox) : SameMove c s o o' := by
  cases h with
  | next h => exact .next ⟨henv ▸ h.ready, h.inbox.trans hinbox⟩
  | fault f => exact .fault f

/-- A move that takes no look. -/
theorem SameMove.of_ready {t : State} (hready : t.env.ready = s.env.ready) (hinbox : t.inbox = s.inbox) :
    SameMove c s (.next t) (.next (withSched c t)) :=
  .next (.of_ready hready hinbox)

/-! ### The uses of the resources -/

theorem drawXfer_withSched (c : Sched) (s : State) : drawXfer (withSched c s) = ((drawXfer s).1, withSched c (drawXfer s).2) := by
  unfold drawXfer
  cases h : s.env.xfer <;> simp [withSched, h]

theorem drawDrive_withSched (c : Sched) (s : State) : drawDrive (withSched c s) = ((drawDrive s).1, withSched c (drawDrive s).2) := by
  unfold drawDrive
  cases h : s.env.drive <;> simp [withSched, h]

theorem drawReady_withSched (c : Sched) (s : State) : drawReady (withSched c s) = ((drawReady s).1, withSched c (drawReady s).2) := by
  unfold drawReady
  cases h : s.env.ready <;> simp [withSched, h]

theorem drawXfer_oneLook (s : State) : OneLook s (drawXfer s).2 := by
  unfold drawXfer
  split <;> exact .of_ready rfl rfl

theorem drawDrive_oneLook (s : State) : OneLook s (drawDrive s).2 := by
  unfold drawDrive
  split <;> exact .of_ready rfl rfl

theorem drawReady_oneLook (s : State) : OneLook s (drawReady s).2 := by
  unfold drawReady
  split
  next h => exact ⟨.inr (by rw [h]; rfl), List.suffix_refl _⟩
  next => exact .of_ready rfl rfl

theorem xfer_sameAttempt (n : Nat) (s : State) : SameAttempt c s (xfer n s) (xfer n (withSched c s)) := by
  have hlook := drawXfer_oneLook s
  simp only [xfer, drawXfer_withSched]
  rcases hdraw : drawXfer s with ⟨d, t⟩
  rw [hdraw] at hlook
  cases d with
  | answers given => exact .passed (t := receive n given t) ⟨hlook.ready, hlook.inbox⟩
  | fails => exact .failed (t := scrubRx (emit (.fail .channel) t)) ⟨hlook.ready, hlook.inbox⟩

theorem driveReset_sameAttempt (level : Level) (s : State) : SameAttempt c s (driveReset level s) (driveReset level (withSched c s)) := by
  have hlook := drawDrive_oneLook s
  simp only [driveReset, drawDrive_withSched]
  rcases hdraw : drawDrive s with ⟨d, t⟩
  rw [hdraw] at hlook
  cases d with
  | drives => exact .passed (t := { emit (.reset level) t with resetOut := .ofLevel level }) ⟨hlook.ready, hlook.inbox⟩
  | fails => exact .failed (t := { emit (.fail .resetLine) t with resetOut := .unknown }) ⟨hlook.ready, hlook.inbox⟩

theorem gate_sameAttempt (h : LookHolds s) : SameAttempt c s (gate s) (gate (withSched c s)) := by
  obtain ⟨d, rs, hready, hd⟩ := h
  have htail : rs = s.env.ready.tail := by rw [hready]; rfl
  cases d with
  | asserted =>
    rw [gate_asserted hready, gate_asserted (s := withSched c s) hready]
    exact .passed ⟨.inr htail, List.suffix_refl _⟩
  | fails =>
    rw [gate_fails hready, gate_fails (s := withSched c s) hready]
    exact .failed ⟨.inr htail, List.suffix_refl _⟩
  | deasserted => exact absurd rfl hd

theorem gateIf_sameAttempt (gated : Bool) (h : LookHolds s) : SameAttempt c s (gateIf gated s) (gateIf gated (withSched c s)) := by
  cases gated with
  | false => exact .passed (.of_ready rfl rfl)
  | true => exact gate_sameAttempt h

theorem delayIf_sameAttempt (d : Option Duration) (s : State) :
    SameAttempt c s (.passed (delayIf d s)) (.passed (delayIf d (withSched c s))) := by
  cases d with
  | none => exact .passed (.of_ready rfl rfl)
  | some d => exact .passed (t := delayFor d s) (.of_ready rfl rfl)

theorem preludeHalf_sameAttempt (gated : Bool) (d : Option Duration) (second : Bool) (h : LookHolds s) :
    SameAttempt c s (preludeHalf gated d second s) (preludeHalf gated d second (withSched c s)) := by
  have horder : (withSched c s).params.gateOrder = s.params.gateOrder := rfl
  simp only [preludeHalf, horder]
  cases s.params.gateOrder <;> cases second
  · exact gateIf_sameAttempt gated h
  · exact delayIf_sameAttempt d s
  · exact delayIf_sameAttempt d s
  · exact gateIf_sameAttempt gated h

theorem SameAttempt.settle {op : Op} {goOn : State → State} {a a' : Attempt} (h : SameAttempt c s a a')
    (hcomm : ∀ t, goOn (withSched c t) = withSched c (goOn t)) (henv : ∀ t, (goOn t).env = t.env)
    (hinbox : ∀ t, (goOn t).inbox = t.inbox) :
    SameMove c s (.next (settle op goOn a)) (.next (settle op goOn a')) := by
  cases h with
  | @passed t h =>
    show SameMove c s (.next (goOn t)) (.next (goOn (withSched c t)))
    rw [hcomm]
    exact .next ⟨by rw [henv]; exact h.ready, (hinbox t) ▸ h.inbox⟩
  | failed h => exact .next ⟨h.ready, h.inbox⟩

theorem SameAttempt.settleScrubbed {op : Op} {goOn : State → State} {a a' : Attempt} (h : SameAttempt c s a a')
    (hcomm : ∀ t, goOn (withSched c t) = withSched c (goOn t)) (henv : ∀ t, (goOn t).env = t.env)
    (hinbox : ∀ t, (goOn t).inbox = t.inbox) :
    SameMove c s (.next (settleScrubbed op goOn a)) (.next (settleScrubbed op goOn a')) := by
  cases h with
  | @passed t h =>
    show SameMove c s (.next (goOn t)) (.next (goOn (withSched c t)))
    rw [hcomm]
    exact .next ⟨by rw [henv]; exact h.ready, (hinbox t) ▸ h.inbox⟩
  | failed h => exact .next ⟨h.ready, h.inbox⟩

/-- An attempt after which the operation goes to another position. -/
theorem SameAttempt.goesTo {op : Op} {a a' : Attempt} (q : Seq) (h : SameAttempt c s a a') :
    SameMove c s (.next (Machine.settle op (seqTo q) a)) (.next (Machine.settle op (seqTo q) a')) :=
  h.settle (fun _ => rfl) (fun _ => rfl) fun _ => rfl

/-! ### The turns -/

theorem escTurn_sameMove (h : LookHolds s) : SameMove c s (escTurn s) (escTurn (withSched c s)) := by
  have hseq : (withSched c s).seq = s.seq := rfl
  simp only [escTurn, hseq]
  split
  · exact (gateIf_sameAttempt _ h).goesTo _
  · exact (xfer_sameAttempt _ s).goesTo _
  · exact .of_ready rfl rfl
  · exact .fault _

theorem preludeTurn_sameMove (op : Op) (gated : Bool) (h : LookHolds s) :
    SameMove c s (.next (preludeTurn op gated s)) (.next (preludeTurn op gated (withSched c s))) :=
  (preludeHalf_sameAttempt gated s.operands.delay s.seq.second h).goesTo _

theorem xferTurn_sameMove (op : Op) (s : State) :
    SameMove c s (.next (xferTurn op s)) (.next (xferTurn op (withSched c s))) :=
  (xfer_sameAttempt _ s).goesTo _

theorem checkTurn_sameMove (op : Op) (s : State) :
    SameMove c s (.next (checkTurn op s)) (.next (checkTurn op (withSched c s))) := by
  have hrxbuf : (withSched c s).rxbuf = s.rxbuf := rfl
  have hoperands : (withSched c s).operands = s.operands := rfl
  simp only [checkTurn, hrxbuf, hoperands]
  split
  · exact .of_ready rfl rfl
  · exact .of_ready rfl rfl

theorem echoTurn_sameMove (s : State) : SameMove c s (.next (echoTurn s)) (.next (echoTurn (withSched c s))) := by
  have hrxbuf : (withSched c s).rxbuf = s.rxbuf := rfl
  have hoperands : (withSched c s).operands = s.operands := rfl
  simp only [echoTurn, hrxbuf, hoperands]
  split
  · exact .of_ready rfl rfl
  · exact .of_ready rfl rfl

theorem xchgTurn_sameMove (h : LookHolds s) : SameMove c s (xchgTurn s) (xchgTurn (withSched c s)) := by
  have hseq : (withSched c s).seq = s.seq := rfl
  simp only [xchgTurn, hseq]
  split
  · exact preludeTurn_sameMove _ _ h
  · exact xferTurn_sameMove _ s
  · exact checkTurn_sameMove _ s
  · exact .of_ready rfl rfl
  · exact .fault _

theorem wrTurn_sameMove (h : LookHolds s) : SameMove c s (wrTurn s) (wrTurn (withSched c s)) := by
  have hseq : (withSched c s).seq = s.seq := rfl
  simp only [wrTurn, hseq]
  split
  · exact preludeTurn_sameMove _ _ h
  · exact xferTurn_sameMove _ s
  · exact .of_ready rfl rfl
  · exact .fault _

theorem xchgeTurn_sameMove (h : LookHolds s) : SameMove c s (xchgeTurn s) (xchgeTurn (withSched c s)) := by
  have hseq : (withSched c s).seq = s.seq := rfl
  simp only [xchgeTurn, hseq]
  split
  · exact preludeTurn_sameMove _ _ h
  · exact xferTurn_sameMove _ s
  · exact checkTurn_sameMove _ s
  · exact echoTurn_sameMove s
  · exact .of_ready rfl rfl
  · exact .fault _

theorem resetTurn_sameMove (s : State) : SameMove c s (resetTurn s) (resetTurn (withSched c s)) := by
  have hseq : (withSched c s).seq = s.seq := rfl
  simp only [resetTurn, hseq]
  split
  · exact (driveReset_sameAttempt _ s).goesTo _
  · exact .of_ready rfl rfl
  · exact (driveReset_sameAttempt _ s).goesTo _
  · exact .of_ready rfl rfl
  · exact .of_ready rfl rfl
  · exact .fault _

theorem buildProbeTurn_sameMove (h : LookHolds s) : SameMove c s (buildProbeTurn s) (buildProbeTurn (withSched c s)) := by
  have hseq : (withSched c s).seq = s.seq := rfl
  simp only [buildProbeTurn, hseq]
  split
  · exact (gateIf_sameAttempt _ h).goesTo _
  · exact (xfer_sameAttempt _ s).goesTo _
  · exact .fault _

theorem identityTurn_sameMove (s : State) : SameMove c s (.next (identityTurn s)) (.next (identityTurn (withSched c s))) := by
  have hparams : (withSched c s).params.probeRxCheck = s.params.probeRxCheck := rfl
  have hrxbuf : (withSched c s).rxbuf = s.rxbuf := rfl
  have hoperands : (withSched c s).operands = s.operands := rfl
  simp only [identityTurn, raiseProbe, hparams, hrxbuf, hoperands]
  split
  · split
    · exact .of_ready rfl rfl
    · exact .of_ready rfl rfl
  · exact .of_ready rfl rfl

theorem buildFrameTurn_sameMove (f : CfgFrame) (h : LookHolds s) :
    SameMove c s (buildFrameTurn f s) (buildFrameTurn f (withSched c s)) := by
  have hseq : (withSched c s).seq = s.seq := rfl
  have hrxbuf : (withSched c s).rxbuf = s.rxbuf := rfl
  have herror : cfgError (withSched c s).params = cfgError s.params := rfl
  simp only [buildFrameTurn, hseq, hrxbuf, herror]
  split
  · exact .of_ready rfl rfl
  · exact (preludeHalf_sameAttempt (cfgGated s.params) f.delay s.seq.second h).settleScrubbed (fun _ => rfl) (fun _ => rfl)
      fun _ => rfl
  · exact (xfer_sameAttempt _ s).goesTo _
  · split
    · exact .of_ready rfl rfl
    · exact .of_ready rfl rfl
  · exact .fault _

theorem buildTurn_sameMove (h : LookHolds s) : SameMove c s (buildTurn s) (buildTurn (withSched c s)) := by
  have hseq : (withSched c s).seq = s.seq := rfl
  have hoperands : (withSched c s).operands = s.operands := rfl
  simp only [buildTurn, hseq, hoperands]
  split
  · exact buildProbeTurn_sameMove h
  · exact identityTurn_sameMove s
  · split
    · exact buildFrameTurn_sameMove _ h
    · exact .fault _
  · exact .of_ready rfl rfl
  · exact .fault _

theorem advance_sameMove (h : LookHolds s) : SameMove c s (advance s) (advance (withSched c s)) := by
  have hseq : (withSched c s).seq = s.seq := rfl
  simp only [advance, hseq]
  split
  · exact .of_ready rfl rfl
  · exact escTurn_sameMove h
  · exact xchgTurn_sameMove h
  · exact wrTurn_sameMove h
  · exact xchgeTurn_sameMove h
  · exact resetTurn_sameMove s
  · exact buildTurn_sameMove h
  · exact .fault _

/-! ### The requests -/

theorem refusal_withSched {op : Op} (h : op ≠ .abandon) (bad : Option Reason) :
    refusal (withSched c s) op bad = refusal s op bad := by
  simp only [refusal, if_neg h]
  rfl

/-- A request but ABANDON is admitted alike, and then does the same. -/
theorem ifAdmitted_sameMove {op : Op} {bad : Option Reason} {act : State → State} (h : op ≠ .abandon)
    (hact : SameMove c s (.next (act s)) (.next (act (withSched c s)))) :
    SameMove c s (.next (ifAdmitted op bad act s)) (.next (ifAdmitted op bad act (withSched c s))) := by
  simp only [ifAdmitted, refusal_withSched h]
  split
  · exact .of_ready rfl rfl
  · exact hact

theorem execRrdy_sameMove (s : State) : SameMove c s (execRrdy s) (execRrdy (withSched c s)) := by
  refine ifAdmitted_sameMove nofun ?_
  have hlook := drawReady_oneLook s
  simp only [drawReady_withSched]
  rcases hdraw : drawReady s with ⟨d, t⟩
  rw [hdraw] at hlook
  have henv : (finishRrdy d t).env = t.env ∧ (finishRrdy d t).inbox = t.inbox := by cases d <;> exact ⟨rfl, rfl⟩
  have hcomm : finishRrdy d (withSched c t) = withSched c (finishRrdy d t) := by cases d <;> rfl
  show SameMove c s (.next (finishRrdy d t)) (.next (finishRrdy d (withSched c t)))
  rw [hcomm]
  exact .next ⟨by rw [henv.1]; exact hlook.ready, henv.2 ▸ hlook.inbox⟩

theorem execSrst_sameMove (level : Level) (s : State) : SameMove c s (execSrst level s) (execSrst level (withSched c s)) := by
  refine ifAdmitted_sameMove nofun (SameMove.mono (t := { s with operands := { s.operands with level := encodeLevel level } })
    ((driveReset_sameAttempt level _).settle ?_ ?_ ?_) rfl (List.suffix_refl _))
  · exact fun _ => rfl
  · exact fun _ => rfl
  · exact fun _ => rfl

theorem exec_sameMove {i : Instr} (h : i ≠ .abandon) : SameMove c s (exec i s) (exec i (withSched c s)) := by
  cases i with
  | chk | wrh | val | echo | esc | xchg | wr | xchge | reset | build | degrade =>
    exact ifAdmitted_sameMove nofun (.of_ready rfl rfl)
  | srst level => exact execSrst_sameMove level s
  | rrdy => exact execRrdy_sameMove s
  | abandon => exact absurd rfl h
  | frameToModuleid | frameToConfiguration | frameToData | frameToFeedback | frameFromModuleid | frameFromConfiguration
  | frameFromData | frameFromFeedback | probe => exact .of_ready rfl rfl

theorem rejectWord_sameMove (w : PortWord) (s : State) :
    SameMove c s (.next (rejectWord w s)) (.next (rejectWord w (withSched c s))) := by
  cases w with
  | request cmd ops => exact .of_ready rfl rfl
  | wire bytes => exact .next ⟨.inl rfl, List.suffix_refl _⟩

theorem runWord_sameMove {w : PortWord} (h : decode w ≠ .ok .abandon) : SameMove c s (runWord w s) (runWord w (withSched c s)) := by
  unfold runWord
  cases hdecode : decode w with
  | ok i => exact exec_sameMove fun hi => h (by rw [hdecode, hi])
  | error e => exact rejectWord_sameMove w s

/-! ### Steps and runs -/

theorem step_sameMove (h : LookHolds s) (habandon : ∀ w, Input.present w ∈ s.inbox → decode w ≠ .ok .abandon) :
    SameMove c s (step s) (step (withSched c s)) := by
  have htail {x : Input} {rest : List Input} (hin : s.inbox = x :: rest) : rest <:+ s.inbox := hin ▸ List.suffix_cons x rest
  cases hin : s.inbox with
  | nil =>
    rw [step_eq_advance hin, step_eq_advance (s := withSched c s) hin]
    exact advance_sameMove h
  | cons x rest =>
    cases x with
    | pause =>
      rw [step_pause hin, step_pause (s := withSched c s) hin]
      exact (advance_sameMove (s := { s with inbox := rest }) h).mono rfl (htail hin)
    | await =>
      cases hop : s.seq.op with
      | none =>
        rw [step_await_idle hin hop, step_await_idle (s := withSched c s) hin hop]
        exact .next (t := { s with inbox := rest }) ⟨.inl rfl, htail hin⟩
      | some op =>
        rw [step_await_busy hin hop, step_await_busy (s := withSched c s) hin hop]
        exact advance_sameMove h
    | present w =>
      rw [step_present hin, step_present (s := withSched c s) hin]
      exact (runWord_sameMove (s := { s with inbox := rest }) (habandon w (by simp [hin]))).mono rfl (htail hin)

/-- Looks that do not find the line deasserted, one for each step. -/
def LooksHold (k : Nat) (s : State) : Prop := k ≤ s.env.ready.length ∧ ∀ d ∈ s.env.ready.take k, d ≠ .deasserted

theorem LooksHold.look {k : Nat} (h : LooksHold (k + 1) s) : LookHolds s := by
  obtain ⟨hlen, hholds⟩ := h
  cases hready : s.env.ready with
  | nil => simp [hready] at hlen
  | cons d rs => exact ⟨d, rs, hready, hholds d (by simp [hready])⟩

theorem LooksHold.next {k : Nat} {t : State} (h : LooksHold (k + 1) s) (hlook : OneLook s t) : LooksHold k t := by
  obtain ⟨hlen, hholds⟩ := h
  rcases hlook.ready with hready | hready
  · rw [LooksHold, hready]
    exact ⟨by omega, fun d hd => hholds d ((List.take_subset_take_left _ (Nat.le_succ k)) hd)⟩
  · rw [LooksHold, hready, List.length_tail, ← List.drop_one, List.take_drop]
    exact ⟨by omega, fun d hd => hholds d (List.mem_of_mem_drop (Nat.add_comm 1 k ▸ hd))⟩

theorem steps_withSched (c : Sched) (k : Nat) {s t : State} (h : LooksHold k s)
    (habandon : ∀ w, Input.present w ∈ s.inbox → decode w ≠ .ok .abandon) (hrun : steps k s = .next t) :
    steps k (withSched c s) = .next (withSched c t) := by
  induction k generalizing s with
  | zero =>
    cases hrun
    rfl
  | succ k ih =>
    have hmove := step_sameMove (c := c) h.look habandon
    generalize hs : step s = o, hs' : step (withSched c s) = o' at hmove
    cases hmove with
    | next hlook =>
      rw [steps_succ k hs] at hrun
      rw [steps_succ k hs']
      exact ih (h.next hlook) (fun w hw => habandon w (hlook.inbox.subset hw)) hrun
    | fault f =>
      rw [steps, hs] at hrun
      cases hrun

end SchedulingIndependence

/-- Settles O58. -/
theorem schedulingIndependence : Obligations.SchedulingIndependence :=
  fun k s _ hlen hholds habandon hrun => steps_withSched .coop k (s := withSched .sync s) ⟨hlen, hholds⟩ habandon hrun

end Sys2Proof.Machine

/-! PROOFS. Degrade and rebuild (R164): BUILD takes the same course from two states that differ in what it does not look at, `IDENT`,
`RES`, `STATUS`, `RESET_OUT`, the trace so far, and `RXBUF` until the probe's response is in. -/

namespace Sys2Proof.Machine

open Host (Outcome)

section SameCourse

/-- A trace that goes on behind `xs` does so with more events. -/
theorem append_behind {xs ys tr : List Event} (h : tr = xs ++ ys) (zs : List Event) : tr ++ zs = xs ++ (ys ++ zs) := by
  rw [h, List.append_assoc]

/-- `s'` differs from `s` in what BUILD does not look at, and the same events stand behind `a` in the one trace and behind `b` in the
other; once the probe has been `answered`, `RXBUF` is the same. -/
inductive SameCourse (a b : List Event) (answered : Prop) (s : State) : State → Prop
  | intro {i : IdentReg} {r : ResVal} {st : Result} {o : ResetOut} {rx : Buf} {tr events : List Event} (htrace : s.trace = a ++ events)
      (htr : tr = b ++ events) (hrx : answered → rx = s.rxbuf) :
      SameCourse a b answered s { s with ident := i, res := r, status := st, resetOut := o, rxbuf := rx, trace := tr }

variable {a b : List Event} {answered : Prop} {s s' : State}

theorem SameCourse.of_fields (hparams : s'.params = s.params) (hslot : s'.slot = s.slot) (hphase : s'.phase = s.phase)
    (hsetup : s'.setup = s.setup) (htaint : s'.taint = s.taint) (hseq : s'.seq = s.seq) (hoperands : s'.operands = s.operands)
    (htxbuf : s'.txbuf = s.txbuf) (henv : s'.env = s.env) (hinbox : s'.inbox = s.inbox) (hfresh : s'.fresh = s.fresh) :
    SameCourse s.trace s'.trace False s s' := by
  obtain ⟨_, _, _, _, _, _, _, _, _, _, _, _, _, _, _, _, _⟩ := s
  cases s'
  dsimp only at *
  subst hparams hslot hphase hsetup htaint hseq hoperands htxbuf henv hinbox hfresh
  exact .intro (events := []) (List.append_nil _).symm (List.append_nil _).symm nofun

theorem SameCourse.mono {later : Prop} (h : SameCourse a b answered s s') (himp : later → answered) : SameCourse a b later s s' := by
  obtain ⟨htrace, htr, hrx⟩ := h
  exact .intro htrace htr fun hl => hrx (himp hl)

/-! ### The state's operations -/

theorem SameCourse.seqTo (q : Seq) (h : SameCourse a b answered s s') :
    SameCourse a b answered (seqTo q s) (Machine.seqTo q s') := by
  obtain ⟨htrace, htr, hrx⟩ := h
  exact .intro htrace htr hrx

theorem SameCourse.emit (e : Event) (h : SameCourse a b answered s s') :
    SameCourse a b answered (emit e s) (Machine.emit e s') := by
  obtain ⟨htrace, htr, hrx⟩ := h
  exact .intro (append_behind htrace [e]) (append_behind htr [e]) hrx

theorem SameCourse.scrubRx (h : SameCourse a b answered s s') : SameCourse a b True (scrubRx s) (Machine.scrubRx s') := by
  obtain ⟨htrace, htr, hrx⟩ := h
  exact .intro htrace htr fun _ => rfl

theorem SameCourse.raise (op : Op) (e : Result) (h : SameCourse a b answered s s') :
    SameCourse a b answered (raise op e s) (Machine.raise op e s') := by
  obtain ⟨htrace, htr, hrx⟩ := h
  exact .intro (append_behind htrace [.result (.op op) e]) (append_behind htr [.result (.op op) e]) hrx

theorem SameCourse.bindTurn (h : SameCourse a b answered s s') : SameCourse a b True (bindTurn s) (Machine.bindTurn s') := by
  obtain ⟨htrace, htr, hrx⟩ := h
  exact .intro (append_behind htrace [.result (.op .build) .ok]) (append_behind htr [.result (.op .build) .ok]) fun _ => rfl

theorem SameCourse.assembleCfg (f : CfgFrame) (h : SameCourse a b answered s s') :
    SameCourse a b answered (assembleCfg f s) (Machine.assembleCfg f s') := by
  obtain ⟨htrace, htr, hrx⟩ := h
  exact .intro htrace htr hrx

/-- The bytes received are the same, so from here on `RXBUF` is. -/
theorem SameCourse.receive (n : Nat) (given : List Byte) (h : SameCourse a b answered s s') :
    SameCourse a b True (receive n given s) (Machine.receive n given s') := by
  obtain ⟨htrace, htr, hrx⟩ := h
  exact .intro (append_behind htrace _) (append_behind htr _) fun _ => rfl

theorem SameCourse.delayIf (d : Option Duration) (h : SameCourse a b answered s s') :
    SameCourse a b answered (delayIf d s) (Machine.delayIf d s') := by
  cases d with
  | none => exact h
  | some d => exact h.emit (.delay d)

theorem SameCourse.drawReady (h : SameCourse a b answered s s') :
    (Machine.drawReady s').1 = (Machine.drawReady s).1 ∧ SameCourse a b answered (drawReady s).2 (Machine.drawReady s').2 := by
  obtain ⟨htrace, htr, hrx⟩ := h
  unfold Machine.drawReady
  cases s.env.ready with
  | nil => exact ⟨rfl, .intro htrace htr hrx⟩
  | cons d rs => exact ⟨rfl, .intro htrace htr hrx⟩

theorem SameCourse.drawXfer (h : SameCourse a b answered s s') :
    (Machine.drawXfer s').1 = (Machine.drawXfer s).1 ∧ SameCourse a b answered (drawXfer s).2 (Machine.drawXfer s').2 := by
  obtain ⟨htrace, htr, hrx⟩ := h
  unfold Machine.drawXfer
  cases s.env.xfer with
  | nil => exact ⟨rfl, .intro htrace htr hrx⟩
  | cons d xs => exact ⟨rfl, .intro htrace htr hrx⟩

/-! ### The uses of the resources -/

/-- Two attempts of the operation at `q` end alike. -/
inductive SameEnd (a b : List Event) (answered : Prop) (q : Seq) : Attempt → Attempt → Prop
  | passed {t t' : State} (h : SameCourse a b answered t t') : SameEnd a b answered q (.passed t) (.passed t')
  | held {t t' : State} (h : SameCourse a b answered t t') (hseq : t.seq = q) : SameEnd a b answered q (.held t) (.held t')
  | failed {e : Result} {t t' : State} (h : SameCourse a b answered t t') : SameEnd a b answered q (.failed e t) (.failed e t')

theorem SameCourse.params (h : SameCourse a b answered s s') : s'.params = s.params := by
  obtain ⟨⟩ := h
  rfl

theorem SameCourse.gate (h : SameCourse a b answered s s') : SameEnd a b answered s.seq (gate s) (Machine.gate s') := by
  have hseq := (drawReady_moved s).seq
  obtain ⟨hdraw, hnext⟩ := h.drawReady
  unfold Machine.gate
  rcases hd : Machine.drawReady s with ⟨d, t⟩
  rcases hd' : Machine.drawReady s' with ⟨d', t'⟩
  rw [hd, hd'] at hdraw hnext
  rw [hd] at hseq
  cases hdraw
  cases d with
  | asserted => exact .passed (hnext.emit _)
  | fails => exact .failed (hnext.emit _)
  | deasserted =>
    have hsched := hnext.params
    dsimp only at hsched hseq ⊢
    rw [hsched]
    cases t.params.sched with
    | sync => exact .failed (hnext.emit _)
    | coop => exact .held hnext hseq

theorem SameCourse.gateIf (gated : Bool) (h : SameCourse a b answered s s') :
    SameEnd a b answered s.seq (gateIf gated s) (Machine.gateIf gated s') := by
  cases gated with
  | false => exact .passed h
  | true => exact h.gate

theorem SameCourse.preludeHalf (gated : Bool) (d : Option Duration) (second : Bool) (h : SameCourse a b answered s s') :
    SameEnd a b answered s.seq (preludeHalf gated d second s) (Machine.preludeHalf gated d second s') := by
  simp only [Machine.preludeHalf, h.params]
  cases s.params.gateOrder <;> cases second
  · exact h.gateIf gated
  · exact .passed (h.delayIf d)
  · exact .passed (h.delayIf d)
  · exact h.gateIf gated

theorem SameCourse.xfer (n : Nat) (h : SameCourse a b answered s s') :
    SameEnd a b True s.seq (xfer n s) (Machine.xfer n s') := by
  obtain ⟨hdraw, hnext⟩ := h.drawXfer
  unfold Machine.xfer
  rcases hd : Machine.drawXfer s with ⟨d, t⟩
  rcases hd' : Machine.drawXfer s' with ⟨d', t'⟩
  rw [hd, hd'] at hdraw hnext
  cases hdraw
  cases d with
  | answers given => exact .passed (hnext.receive n given)
  | fails => exact .failed (hnext.emit _).scrubRx

/-! ### The turns of BUILD -/

/-- BUILD in progress takes the same course; ended, it has ended alike, and Bound to the same identity. -/
inductive SameBuild (a b : List Event) (s s' : State) : Prop
  | building (hop : s.seq.op = some .build) (h : SameCourse a b (s.seq.step ≠ 1) s s')
  | ended (hop : s.seq.op = none) (h : SameCourse a b False s s') (hstatus : s'.status = s.status)
      (hident : s.phase = .bound → s'.ident = s.ident)

theorem SameCourse.raised (e : Result) (h : SameCourse a b answered s s') :
    SameBuild a b (Machine.raise .build e s) (Machine.raise .build e s') :=
  .ended rfl ((h.mono False.elim).raise .build e) rfl nofun

theorem SameCourse.raisedScrubbed (e : Result) (h : SameCourse a b answered s s') :
    SameBuild a b (raiseScrubbed .build e s) (raiseScrubbed .build e s') :=
  h.scrubRx.raised e

theorem SameCourse.goesTo {q : Seq} (h : SameCourse a b answered s s') (hop : q.op = some .build) (hstep : q.step ≠ 1 → answered) :
    SameBuild a b (Machine.seqTo q s) (Machine.seqTo q s') :=
  .building hop ((h.mono hstep).seqTo q)

/-- Two attempts that end alike, and the positions after them. -/
theorem SameEnd.settle {q q' : Seq} {x x' : Attempt} (h : SameEnd a b answered q x x') (hq : q.op = some .build)
    (hstay : q.step ≠ 1 → answered) (hop : q'.op = some .build) (hstep : q'.step ≠ 1 → answered) :
    SameBuild a b (settle .build (seqTo q') x) (Machine.settle .build (seqTo q') x') := by
  cases h with
  | passed h => exact h.goesTo hop hstep
  | held h hseq => exact .building (hseq ▸ hq) (h.mono (hseq ▸ hstay))
  | failed h => exact h.raised _

theorem SameEnd.settleScrubbed {q q' : Seq} {x x' : Attempt} (h : SameEnd a b answered q x x') (hq : q.op = some .build)
    (hstay : q.step ≠ 1 → answered) (hop : q'.op = some .build) (hstep : q'.step ≠ 1 → answered) :
    SameBuild a b (settleScrubbed .build (seqTo q') x) (Machine.settleScrubbed .build (seqTo q') x') := by
  cases h with
  | passed h => exact h.goesTo hop hstep
  | held h hseq => exact .building (hseq ▸ hq) (h.mono (hseq ▸ hstay))
  | failed h => exact h.raisedScrubbed _

/-- Two moves end alike. -/
inductive SameOutcome (a b : List Event) : Outcome State Fault Refusal → Outcome State Fault Refusal → Prop
  | next {t t' : State} (h : SameBuild a b t t') : SameOutcome a b (.next t) (.next t')
  | fault (f : Fault) : SameOutcome a b (.fault f) (.fault f)

theorem SameCourse.seq (h : SameCourse a b answered s s') : s'.seq = s.seq := by
  obtain ⟨⟩ := h
  rfl

theorem SameCourse.operands (h : SameCourse a b answered s s') : s'.operands = s.operands := by
  obtain ⟨⟩ := h
  rfl

theorem SameCourse.rxbuf (h : SameCourse a b answered s s') (hanswered : answered) : s'.rxbuf = s.rxbuf := by
  obtain ⟨-, -, hrx⟩ := h
  exact hrx hanswered

theorem SameCourse.buildProbeTurn (h : SameCourse a b answered s s') (hop : s.seq.op = some .build) (hstep : s.seq.step = 1) :
    SameOutcome a b (buildProbeTurn s) (Machine.buildProbeTurn s') := by
  simp only [Machine.buildProbeTurn, h.seq, h.params, h.operands]
  split
  · exact .next ((h.gateIf _).settle hop (absurd hstep) rfl (absurd rfl))
  · exact .next ((h.xfer _).settle hop (fun _ => trivial) rfl fun _ => trivial)
  · exact .fault _

theorem SameCourse.identityTurn (h : SameCourse a b True s s') :
    SameOutcome a b (.next (identityTurn s)) (.next (Machine.identityTurn s')) := by
  simp only [Machine.identityTurn, raiseProbe, h.params, h.operands, h.rxbuf trivial]
  split
  · split
    · exact .next (h.raised _)
    · exact .next (h.raisedScrubbed _)
  · exact .next (h.goesTo rfl fun _ => trivial)

theorem seqAfterFrame_op (s : State) (i : Nat) : (seqAfterFrame s i).op = some .build := by
  unfold seqAfterFrame
  split <;> rfl

theorem SameCourse.buildFrameTurn (f : CfgFrame) (h : SameCourse a b True s s') (hop : s.seq.op = some .build) :
    SameOutcome a b (buildFrameTurn f s) (Machine.buildFrameTurn f s') := by
  have hafter : seqAfterFrame s' = seqAfterFrame s := by
    funext i
    rw [seqAfterFrame, h.operands, seqAfterFrame]
  simp only [Machine.buildFrameTurn, h.seq, h.params, h.rxbuf trivial, hafter]
  split
  · exact .next ((h.assembleCfg f).goesTo rfl fun _ => trivial)
  · exact .next ((h.preludeHalf _ _ _).settleScrubbed hop (fun _ => trivial) (by split <;> rfl) fun _ => trivial)
  · exact .next ((h.xfer _).settle hop (fun _ => trivial) rfl fun _ => trivial)
  · split
    · exact .next (h.raisedScrubbed _)
    · exact .next (h.goesTo (seqAfterFrame_op s _) fun _ => trivial)
  · exact .fault _

theorem SameCourse.binds (h : SameCourse a b answered s s') : SameBuild a b (Machine.bindTurn s) (Machine.bindTurn s') :=
  .ended rfl (h.bindTurn.mono False.elim) rfl fun _ => by
    show (⟨true, s'.operands.idexp⟩ : IdentReg) = ⟨true, s.operands.idexp⟩
    rw [h.operands]

theorem SameCourse.buildTurn (h : SameCourse a b (s.seq.step ≠ 1) s s') (hop : s.seq.op = some .build) :
    SameOutcome a b (buildTurn s) (Machine.buildTurn s') := by
  simp only [Machine.buildTurn, h.seq, h.operands]
  split
  next hstep => exact h.buildProbeTurn hop hstep
  next hstep => exact (h.mono fun _ => by rw [hstep]; nofun).identityTurn
  next hstep =>
    split
    · exact (h.mono fun _ => by rw [hstep]; nofun).buildFrameTurn _ hop
    · exact .fault _
  · exact .next h.binds
  · exact .fault _

/-! ### Runs -/

theorem SameBuild.course (h : SameBuild a b s s') : SameCourse a b False s s' := by
  cases h with
  | building hop h => exact h.mono False.elim
  | ended hop h => exact h

theorem SameBuild.step (h : SameBuild a b s s') (hinbox : s.inbox = []) : SameOutcome a b (step s) (Machine.step s') := by
  have hinbox' : s'.inbox = [] := by
    obtain ⟨⟩ := h.course
    exact hinbox
  rw [step_eq_advance hinbox, step_eq_advance hinbox']
  cases h with
  | building hop h =>
    have hs : advance s = Machine.buildTurn s := by rw [advance, hop]
    have hs' : advance s' = Machine.buildTurn s' := by rw [advance, h.seq, hop]
    rw [hs, hs']
    exact h.buildTurn hop
  | ended hop h hstatus hident =>
    rw [advance_idle hop, advance_idle (h.seq ▸ hop)]
    exact .next (.ended hop h hstatus hident)

/-- What BUILD leaves as it is, up to its end and past it. -/
structure KeptByBuild (s t : State) : Prop where
  construction : SameConstruction s t
  taint : t.taint = s.taint
  operands : t.operands = s.operands
  inbox : t.inbox = s.inbox

theorem KeptByBuild.refl (s : State) : KeptByBuild s s := ⟨⟨rfl, rfl, rfl⟩, rfl, rfl, rfl⟩

theorem KeptByBuild.trans {t u : State} (h : KeptByBuild s t) (h' : KeptByBuild t u) : KeptByBuild s u where
  construction := ⟨h'.construction.slot.trans h.construction.slot, h'.construction.setup.trans h.construction.setup,
    h'.construction.params.trans h.construction.params⟩
  taint := h'.taint.trans h.taint
  operands := h'.operands.trans h.operands
  inbox := h'.inbox.trans h.inbox

theorem Turned.keptByBuild {t : State} (h : Turned s .build t) : KeptByBuild s t where
  construction := h.construction
  inbox := h.inbox
  taint := by
    cases h with
    | goesOn w => exact w.taint
    | raises w => exact w.taint
    | ends w hreset hbuild => exact absurd rfl hbuild
    | assembles | binds => rfl
    | resets hop => cases hop
  operands := by
    cases h with
    | goesOn w => exact w.operands
    | raises w => exact w.operands
    | ends w hreset hbuild => exact absurd rfl hbuild
    | assembles | binds => rfl
    | resets hop => cases hop

theorem SameBuild.kept {t : State} (h : SameBuild a b s s') (hinbox : s.inbox = []) (hstep : Machine.step s = .next t) :
    KeptByBuild s t := by
  rw [step_eq_advance hinbox] at hstep
  cases h with
  | building hop => exact (advance_turned hop hstep).keptByBuild
  | ended hop =>
    cases (advance_idle hop).symm.trans hstep
    exact .refl s

/-- Runs of BUILD that start alike end alike. -/
theorem SameBuild.steps {k : Nat} {u : State} (h : SameBuild a b s s') (hinbox : s.inbox = []) (hrun : steps k s = .next u) :
    ∃ u', Machine.steps k s' = .next u' ∧ SameBuild a b u u' ∧ KeptByBuild s u := by
  induction k generalizing s s' with
  | zero =>
    cases hrun
    exact ⟨s', rfl, h, .refl _⟩
  | succ k ih =>
    have hsame := h.step hinbox
    generalize hs : Machine.step s = o, hs' : Machine.step s' = o' at hsame
    cases hsame with
    | next hnext =>
      have hkept := h.kept hinbox hs
      rw [steps_succ k hs] at hrun
      rw [steps_succ k hs']
      obtain ⟨u', hrun', hu, hrest⟩ := ih hnext (hkept.inbox.trans hinbox) hrun
      exact ⟨u', hrun', hu, hkept.trans hrest⟩
    | fault f =>
      rw [Machine.steps, hs] at hrun
      cases hrun

end SameCourse

/-! ### The law -/

/-- An idle instance with no input to come stays as it is. -/
theorem steps_idle {s : State} (k : Nat) (hidle : s.seq.op = none) (hinbox : s.inbox = []) : steps k s = .next s := by
  induction k with
  | zero => rfl
  | succ k ih => rw [steps_succ k ((step_eq_advance hinbox).trans (advance_idle hidle)), ih]

/-- A BUILD that comes to Bound was accepted. -/
theorem accepted_of_bound {s t u : State} {idexp : Ident} {P : Len} {cfg : List CfgFrame} {k : Nat} (hprobe : ProbeReady s)
    (hinbox : s.inbox = []) (hexec : exec (.build idexp P cfg) s = .next t) (hrun : steps k t = .next u) (hbound : u.phase = .bound) :
    badBuild s P cfg = none := by
  by_contra hbad
  obtain ⟨r, hr⟩ := Option.ne_none_iff_exists'.1 hbad
  have hrefused := exec_refused (i := .build idexp P cfg) rfl ((refusal_probe _ (.inr rfl) hprobe).trans hr)
  cases hrefused.symm.trans hexec
  obtain ⟨⟨-, hidle⟩, hphase, -⟩ := hprobe
  cases (steps_idle (s := refuse (.op .build) r s) k hidle hinbox).symm.trans hrun
  cases hphase.symm.trans hbound

/-- What a BUILD looks at when it is admitted and starts: the same in `d` as in `s`. -/
structure SameStart (s d : State) (idexp : Ident) (P : Len) (cfg : List CfgFrame) : Prop where
  construction : SameConstruction s d
  phase : d.phase = s.phase
  taint : d.taint = s.taint
  operands : (startBuild idexp P cfg d).operands = (startBuild idexp P cfg s).operands
  env : d.env = s.env
  inbox : d.inbox = s.inbox
  fresh : d.fresh = s.fresh

section Rebuild

variable {s d t u : State} {idexp : Ident} {P : Len} {cfg : List CfgFrame} {k : Nat}

theorem SameStart.sameBuild (h : SameStart s d idexp P cfg) :
    SameBuild s.trace d.trace (startBuild idexp P cfg s) (startBuild idexp P cfg d) := by
  obtain ⟨⟨hslot, hsetup, hparams⟩, hphase, htaint, hoperands, henv, hinbox, hfresh⟩ := h
  have htxbuf : probeImage d.fresh P.toNat d.params.probeTxChecksum = probeImage s.fresh P.toNat s.params.probeTxChecksum := by
    rw [hfresh, hparams]
  have hcourse : SameCourse s.trace d.trace False (startBuild idexp P cfg s) (startBuild idexp P cfg d) :=
    .of_fields (s := startBuild idexp P cfg s) (s' := startBuild idexp P cfg d) hparams hslot hphase hsetup htaint rfl hoperands
      htxbuf henv hinbox (congrArg (· + 1) hfresh)
  exact .building rfl (hcourse.mono fun hne => hne rfl)

/-- What a run of BUILD keeps, whatever its end. -/
theorem keptByBuild_of_run (hinbox : s.inbox = []) (hrun : steps k (startBuild idexp P cfg s) = .next u) :
    KeptByBuild (startBuild idexp P cfg s) u := by
  have hself : SameStart s s idexp P cfg := ⟨⟨rfl, rfl, rfl⟩, rfl, rfl, rfl, rfl, rfl, rfl⟩
  obtain ⟨-, -, -, hkept⟩ := hself.sameBuild.steps hinbox hrun
  exact hkept

/-- A second BUILD that starts as the first one did comes to the same end with the same events. -/
theorem SameStart.rebuilds (h : SameStart s d idexp P cfg) (hready : d.seq.op = none) (hprobe : ProbeReady s) (hP : LegalLen s P)
    (hne : cfg ≠ []) (hcfg : ∀ f ∈ cfg, LegalCfg s f) (hinbox : s.inbox = []) (hrun : steps k (startBuild idexp P cfg s) = .next u)
    (hidle : u.seq.op = none) (hbound : u.phase = .bound) :
    ∃ t' u' events, exec (.build idexp P cfg) d = .next t' ∧ steps k t' = .next u' ∧ u'.phase = u.phase ∧ u'.ident = u.ident ∧
      u'.taint = u.taint ∧ u'.slot = u.slot ∧ u'.status = u.status ∧ u.trace = s.trace ++ events ∧ u'.trace = d.trace ++ events := by
  obtain ⟨u', hrun', hu, -⟩ := h.sameBuild.steps hinbox hrun
  obtain ⟨⟨-, hsetup, hparams⟩, hphase, htaint, -⟩ := h
  obtain ⟨⟨hsetups, -⟩, hunidentified, huntainted⟩ := hprobe
  have hexec : exec (.build idexp P cfg) d = .next (startBuild idexp P cfg d) :=
    exec_build ⟨⟨hsetup.trans hsetups, hready⟩, hphase.trans hunidentified, htaint.trans huntainted⟩ (hP.congr hparams) hne
      fun f hf => (hcfg f hf).congr hparams
  cases hu with
  | building hop => cases hop.symm.trans hidle
  | ended hop hcourse hstatus hident =>
    have hidentity := hident hbound
    obtain ⟨htrace, htr, -⟩ := hcourse
    exact ⟨_, _, _, hexec, hrun', rfl, hidentity, rfl, rfl, hstatus, htrace, htr⟩

end Rebuild

/-- Settles O46: DEGRADE gives back the state that the first BUILD started from, as far as BUILD looks at it. -/
theorem degradeAndRebuild : Obligations.DegradeAndRebuild := by
  intro s t u d idexp P cfg k hprobe hinbox hexec hrun hidle hbound hdegrade
  obtain ⟨hP, hne, hcfg⟩ := (badBuild_none s P cfg).1 (accepted_of_bound hprobe hinbox hexec hrun hbound)
  cases (exec_build hprobe hP hne hcfg).symm.trans hexec
  obtain ⟨⟨hslot, hsetup, hparams⟩, htaint, hoperands, hinboxu⟩ := keptByBuild_of_run hinbox hrun
  have ⟨⟨hsetups, _⟩, hphase, _⟩ := hprobe
  obtain ⟨e, he, hd⟩ := degradeReturnsToUnidentified u ⟨hsetup.trans hsetups, hidle⟩ hbound
  cases hdegrade.symm.trans he
  have hoperandsd : d.operands = (startBuild idexp P cfg s).operands := (congrArg State.operands hd).trans hoperands
  have hstart : SameStart s { d with env := s.env, fresh := s.fresh } idexp P cfg :=
    { construction := ⟨(congrArg State.slot hd).trans hslot, (congrArg State.setup hd).trans hsetup,
        (congrArg State.params hd).trans hparams⟩
      phase := (congrArg State.phase hd).trans hphase.symm
      taint := (congrArg State.taint hd).trans htaint
      operands := congrArg (fun o : Operands => { o with idexp := idexp, probeLen := P, cfg := cfg }) hoperandsd
      env := rfl
      inbox := (congrArg State.inbox hd).trans hinboxu
      fresh := rfl }
  exact hstart.rebuilds (congrArg (fun x => x.seq.op) hd) hprobe hP hne hcfg hinbox hrun hidle hbound

end Sys2Proof.Machine
